-- ==== Sys2Proof/Word.lean ====
section
/-! DEFINITION. The byte, the one word type of the record port (R200). Quantities of the records are natural
numbers or integers ("All quantities are integers", 00_scope.md). -/
namespace Sys2Proof

/-- One byte as it crosses the record port. -/
abbrev Byte := BitVec 8

end Sys2Proof
end

