-- ==== Sys2Proof/Syntax.lean ====
section
/-! DEFINITION. The commands of the block: one constructor for each row of spec/opcode_table.json, in the table's
order. A host request carries its argument bytes as the exchange carries them (R201), so that a wrong length, a
wrong presence byte or a value out of range is a form of the request like any other. A row that reads a pin for
which the table has no row of its own carries the level found at that pin (log 4). -/
namespace Sys2Proof

/-- The two mud pumps. -/
inductive Pump where
  | a
  | b
deriving DecidableEq, Repr

/-- The two holders of the string (R68). -/
inductive Holder where
  | slips
  | elevator
deriving DecidableEq, Repr

/-- The input levels found at a start (R195): while main power is absent or the part is in reset no event on them
is taken, so a start samples them. True is the high level; `vbakLow` is VBAK below the retention threshold
(R196) and `pselLow` is PSEL_N already low (R193). -/
structure StartLevels where
  slipsClosed : Bool
  elevClosed  : Bool
  wrenchDone  : Bool
  racked      : Bool
  allstopN    : Bool
  rateKey     : Bool
  vbakLow     : Bool
  pselLow     : Bool
deriving DecidableEq, Repr

/-- One constructor for each row of spec/opcode_table.json. -/
inductive Instr where
  /-- ENTER_ROD (R14). Host request 0x10 creates a rod record in a free, unreserved rack slot. -/
  | enterRod (args : List Byte)
  /-- LOOK_UP_ROD (R15). Host request 0x11 reports one rod record and changes nothing. -/
  | lookUpRod (args : List Byte)
  /-- AMEND_ROD (R16). Host request 0x12 changes a rod's physical fields and wear limit, then re-evaluates its status. -/
  | amendRod (args : List Byte)
  /-- QUARANTINE_ROD (R17). Host request 0x13 moves a racked rod into the quarantine set and frees its slot. -/
  | quarantineRod (args : List Byte)
  /-- RETURN_ROD (R18). Host request 0x14 puts a quarantined rod back into a free, unreserved rack slot. -/
  | returnRod (args : List Byte)
  /-- RETIRE_ROD (R19). Host request 0x15 frees the record of a rod that is racked or quarantined. -/
  | retireRod (args : List Byte)
  /-- RESOLVE_ROD (R20). Host request 0x16 gives an UNCERTAIN rod a known location, or records a racked rod at the string top. -/
  | resolveRod (args : List Byte)
  /-- LIST_STRING (R21). Host request 0x17 reports up to six string members, counting from a start position. -/
  | listString (args : List Byte)
  /-- READ_STRING (R22). Host request 0x18 reports the string as a whole: its length, bit depths, steel volume, expected hook load and wear summary. -/
  | readString (args : List Byte)
  /-- NEW_FORMATION (R38). Host request 0x20 starts a new zero-length interval at the bottom of the ACTIVE job's map, or amends the existing zero-length one in place. -/
  | newFormation (args : List Byte)
  /-- LOOK_UP_INTERVAL (R39). Host request 0x21 reports one interval, chosen by depth or by ordinal, together with its penetration rate. -/
  | lookUpInterval (args : List Byte)
  /-- AMEND_INTERVAL (R40). Host request 0x22 corrects the formation, hardness class or diameter of one interval. -/
  | amendInterval (args : List Byte)
  /-- SPLIT_INTERVAL (R41). Host request 0x23 divides one interval into two at a depth and apportions its totals by length. -/
  | splitInterval (args : List Byte)
  /-- MERGE_INTERVALS (R42). Host request 0x24 joins the two intervals that meet at a boundary depth into one. -/
  | mergeIntervals (args : List Byte)
  /-- SET_DIAMETER_RANGE (R43). Host request 0x25 splits intervals at the ends of a depth range and sets the diameter within it. -/
  | setDiameterRange (args : List Byte)
  /-- RECORD_STRIKE (R44). Host request 0x26 records a water strike in the interval that holds the strike depth. -/
  | recordStrike (args : List Byte)
  /-- CLEAR_STRIKE (R45). Host request 0x27 removes the water strike from an interval. -/
  | clearStrike (args : List Byte)
  /-- CHANGE_BIT (R46). Host request 0x28 sets the ACTIVE job's bit diameter while the string is empty. -/
  | changeBit (args : List Byte)
  /-- READ_LIVE (R60). Host request 0x30 reports the live value table, the link state, the pumping and rotating states, the discrete inputs and the receiver counts. -/
  | readLive (wrenchDone racked rateKey : Bool) (args : List Byte)
  /-- ADD_ROD (R64). Host request 0x40 queues an ADD ROD handler entry and reserves its rod. -/
  | addRod (args : List Byte)
  /-- PULL_ROD (R65). Host request 0x41 queues a PULL ROD handler entry and reserves its target rack slot. -/
  | pullRod (args : List Byte)
  /-- TRANSFER_HOLD (R66). Host request 0x42 queues a TRANSFER HOLD handler entry toward a target holder. -/
  | transferHold (args : List Byte)
  /-- CANCEL_HANDLER (R84). Host request 0x43 aborts the head with reason CANCELLED and removes every queued entry. -/
  | cancelHandler (args : List Byte)
  /-- READ_HANDLER (R85). Host request 0x44 reports the queue, the carrier, the permits, the latches and the last outcome, and clears HANDLER_DONE. -/
  | readHandler (args : List Byte)
  /-- SET_PUMP (R97). Host request 0x50 sets one pump's displacement and efficiency, clamping values to their ranges. -/
  | setPump (args : List Byte)
  /-- READ_CIRCULATION (R104). Host request 0x51 asks the survey engine for a survey; the reply is made when that survey completes. -/
  | readCirculation (args : List Byte)
  /-- MUD_CHECK (R122). Host request 0x58 sets the mud density configuration item and re-evaluates the expected hook load while the hub density is stale. -/
  | mudCheck (args : List Byte)
  /-- REBASE_BALANCE (R120). Host request 0x59 books the present pit balance and rebases the reference. -/
  | rebaseBalance (args : List Byte)
  /-- READ_BALANCE (R123). Host request 0x5A reports page 0 or page 1 of the pit balance state. -/
  | readBalance (args : List Byte)
  /-- REQUEST_SWEEP (R137). Host request 0x60 sets the sweep owed flag outside the spacing. -/
  | requestSweep (args : List Byte)
  /-- WAIVE_SWEEP (R138). Host request 0x61 discharges an owed sweep without pumping it and counts a waiver against the job. -/
  | waiveSweep (args : List Byte)
  /-- READ_SWEEP (R140). Host request 0x62 reports the sweep state. -/
  | readSweep (args : List Byte)
  /-- OPEN_JOB (R146). Host request 0x70 opens a new ACTIVE job with its first interval. -/
  | openJob (args : List Byte)
  /-- COMPLETE_JOB (R147). Host request 0x71 books the balance, makes the ACTIVE job COMPLETE and ends the sweep state. -/
  | completeJob (args : List Byte)
  /-- LOOK_UP_JOB (R148). Host request 0x72 reports page 0 or page 1 of a job record and the rig's activity, and removes the slot from the unpriced set. -/
  | lookUpJob (args : List Byte)
  /-- RETIRE_JOB (R149). Host request 0x73 frees a SETTLED job's slot, or a COMPLETE job's slot under the keyswitch, and returns its intervals to the pool. -/
  | retireJob (key : Bool) (args : List Byte)
  /-- ENTER_RATE (R163). Host request 0x80 makes an invalid rate entry valid, under the keyswitch. -/
  | enterRate (key : Bool) (args : List Byte)
  /-- AMEND_RATE (R164). Host request 0x81 replaces every field of a valid rate entry that is not in use, under the keyswitch. -/
  | amendRate (key : Bool) (args : List Byte)
  /-- RETIRE_RATE (R165). Host request 0x82 makes a valid rate entry that is not in use invalid, under the keyswitch. -/
  | retireRate (key : Bool) (args : List Byte)
  /-- LOOK_UP_RATE (R166). Host request 0x83 reports one rate entry. -/
  | lookUpRate (args : List Byte)
  /-- PRICE_JOB (R167). Host request 0x84 starts the pricing of a COMPLETE job and holds the request engine busy. -/
  | priceJob (args : List Byte)
  /-- PRICING_COMPLETE (R167). A pricing completes: its lines and total are written, the job becomes PRICED, use counts rise, and the reply is made. -/
  | pricingComplete
  /-- READ_INVOICE_LINE (R175). Host request 0x85 reports one invoice line of a PRICED or SETTLED job and removes the slot from the unpriced set. -/
  | readInvoiceLine (args : List Byte)
  /-- RELEASE_PRICING (R176). Host request 0x86 discards a PRICED job's lines and returns the job to COMPLETE, under the keyswitch. -/
  | releasePricing (key : Bool) (args : List Byte)
  /-- SETTLE_JOB (R177). Host request 0x87 makes a PRICED job SETTLED and lowers its entries' use counts, under the keyswitch. -/
  | settleJob (key : Bool) (args : List Byte)
  /-- READ_ATTENTION (R187). Host request 0x01 reports the attention set and clears ROD_WORN, POWER_ON, PORT_ERROR and the port counts. -/
  | readAttention (args : List Byte)
  /-- CLEAR_FAULTS (R189). Host request 0x02 clears HANDLER_FAULT, and clears HOLD_FAULT if the carrier is closed or NONE. -/
  | clearFaults (args : List Byte)
  /-- READ_CONFIG (R191). Host request 0x03 reports one configuration item. -/
  | readConfig (args : List Byte)
  /-- SET_CONFIG (R192). Host request 0x04 writes one configuration item, clamped to its range, and the owning block acts on the new value at once. -/
  | setConfig (args : List Byte)
  /-- UNKNOWN_REQUEST (R184). A request whose code names no request completes with UNKNOWN_REQUEST and changes nothing else. -/
  | unknownRequest (code : Byte) (args : List Byte)
  /-- EXCHANGE_BEGIN (R179). PSEL_N falls: the status summary and the held reply are snapshotted for output on PDO. -/
  | exchangeBegin
  /-- EXCHANGE_END (R180). PSEL_N rises: the bytes received are classified as empty, POLL, malformed or a request. -/
  | exchangeEnd (bytes : List Byte) (partialBits : Nat)
  /-- FRAME_ARRIVAL (R50). A complete 120-bit hub frame arrives, and each slot's value is taken or treated as invalid. -/
  | frameArrival (frame : BitVec 120)
  /-- FRAME_CUT_SHORT (R49). A frame start during an incomplete frame discards that frame, treats all seven slots as invalid and advances the short-frame count. -/
  | frameCutShort
  /-- LINK_LOSS (R55). The link-lost timer reaches 100 ms while the link is UP: every quantity goes stale and the pumping and rotating states become UNKNOWN. -/
  | linkLoss
  /-- STROKE_TIMEOUT (R56). A pumping pump's stroke timer reaches the stroke timeout, and the pump becomes STOPPED. -/
  | strokeTimeout (pump : Pump)
  /-- SWEEP_HOLD_EXPIRY (R134). The sweep hold timer reaches the hold time, and the sweep ends with ENDED_HOLD. -/
  | sweepHoldExpiry
  /-- SURVEY_COMPLETE (R101). A survey completes and hands its volumes to every waiter, giving the READ CIRCULATION reply or the sweep target. -/
  | surveyComplete
  /-- SETTLE_REACHED (R111). The settle timer reaches the settle time, the balance becomes settled, and the handler is told. -/
  | settleReached
  /-- HOLDER_INPUT_CHANGE (R68). SLIPS_CLOSED or ELEV_CLOSED changes level, which acts on closed runs, transfers, permits and stage ends. -/
  | holderInputChange (holder : Holder) (closed : Bool)
  /-- WRENCH_DONE_RISE (R75). WRENCH_DONE rises in JOINING or UNJOINING, which joins or breaks out the top member and ends the stage. -/
  | wrenchDoneRise
  /-- RACKED_RISE (R77). RACKED rises in RACKING, which places the rod in its target slot and ends the operation DONE. -/
  | rackedRise
  /-- BLANKING_END (R68). The blanking timer reaches the blanking time, so a low holder input becomes confirmed open. -/
  | blankingEnd
  /-- CLOSED_RUN_REACHES_TRANSFER_TIME (R71). A holder's closed run reaches the transfer time, which completes a transfer or asserts a release permit. -/
  | closedRunReachesTransferTime (holder : Holder)
  /-- STAGE_TIMEOUT (R79). A working stage's timer reaches its limit, and the operation aborts with TIMEOUT or latches HANDLER_FAULT. -/
  | stageTimeout
  /-- ALLSTOP_FALL (R83). ALLSTOP_N goes low: all permits are withdrawn, ALL_STOP is pending and the head past WAITING aborts. -/
  | allstopFall
  /-- ALLSTOP_RISE (R83). ALLSTOP_N goes high: ALL_STOP clears and the permits and WAITING conditions are re-evaluated. -/
  | allstopRise
  /-- IDLE_GRACE_EXPIRY (R153). The idle timer reaches the idle grace, and the activity steps from IDLE to STANDBY. -/
  | idleGraceExpiry
  /-- STANDBY_LIMIT_EXPIRY (R153). The standby timer reaches the standby limit, and the activity steps to SHUTDOWN. -/
  | standbyLimitExpiry
  /-- SECOND_MARK (R154). Each second of the time base accrues one second to the ACTIVE job's counter for the present activity. -/
  | secondMark
  /-- RST_FAULT_CLEAR_PULSE (R198). RST_N rises after a low pulse of 1 ms to less than 200 ms and clears the fault latches as CLEAR FAULTS does. -/
  | rstFaultClearPulse (lowMs : Nat)
  /-- RESET_ENTRY (R198). RST_N has been low for 200 ms, so the part enters reset: permits are withdrawn and the main-well work is lost. -/
  | resetEntry
  /-- START (R195). At power-on or at the release of reset the part makes a warm or cold start and begins taking events. -/
  | start (levels : StartLevels)
  /-- DETERMINATION_END (R87). One blanking time after a start the carrier is determined or HOLD_FAULT latches, and the permits follow their rules. -/
  | determinationEnd
  /-- MAIN_POWER_LOSS (R195). Main power becomes absent: the main well is lost, outputs are withdrawn and no events are taken. -/
  | mainPowerLoss
  /-- RETENTION_LOST_SET (R196). VBAK is below the retention threshold while main power is absent, so the retention-lost latch is set. -/
  | retentionLostSet
  /-- BACKUP_LOW_CHANGE (R197). VBAK crosses the retention threshold while main power is present, which sets or clears BACKUP_LOW. -/
  | backupLowChange (low : Bool)
  /-- FRAME_START (R48). SFSYNC is sampled high after low while no frame is in progress, which begins a new frame and restarts the link-lost timer. -/
  | frameStart
  /-- RESET_LINE_FALL (R198). RST_N falls while the part runs, which starts the measurement of its low time. -/
  | resetLineFall
  /-- MAIN_POWER_RETURN_IN_RESET (R195). Main power becomes present while RST_N is low, and the part is held in reset with PDO high until RST_N rises. -/
  | mainPowerReturnInReset
deriving DecidableEq, Repr

end Sys2Proof
end

