-- ==== Sys2Proof/WellFormed.lean ====
section
/-! DEFINITION. Which terms of Instr are commands of the spec. The checks are on the operands alone. -/
namespace Sys2Proof

/-- The codes of the host requests, in the order of the opcode table (R14 ... R192). -/
def requestCodes : List Byte :=
  [0x10, 0x11, 0x12, 0x13, 0x14, 0x15, 0x16, 0x17, 0x18,
   0x20, 0x21, 0x22, 0x23, 0x24, 0x25, 0x26, 0x27, 0x28,
   0x30, 0x40, 0x41, 0x42, 0x43, 0x44, 0x50, 0x51, 0x58, 0x59, 0x5A,
   0x60, 0x61, 0x62, 0x70, 0x71, 0x72, 0x73,
   0x80, 0x81, 0x82, 0x83, 0x84, 0x85, 0x86, 0x87,
   0x01, 0x02, 0x03, 0x04]

/-- The longest argument of a request (R180: a declared length above 62 is malformed). -/
def maxArgs : Nat := 62

/-- A code that an exchange can carry and that names no request (R180, R184): 0x00 is the POLL. -/
def namesNoRequest (code : Byte) : Bool := code != 0 && !(requestCodes.contains code)

/-- The argument bytes of a host request row, absent for a row that is no request. -/
def Instr.args? : Instr → Option (List Byte)
  | .enterRod a | .lookUpRod a | .amendRod a | .quarantineRod a | .returnRod a | .retireRod a | .resolveRod a
  | .listString a | .readString a | .newFormation a | .lookUpInterval a | .amendInterval a | .splitInterval a
  | .mergeIntervals a | .setDiameterRange a | .recordStrike a | .clearStrike a | .changeBit a | .readLive _ _ _ a
  | .addRod a | .pullRod a | .transferHold a | .cancelHandler a | .readHandler a | .setPump a | .readCirculation a
  | .mudCheck a | .rebaseBalance a | .readBalance a | .requestSweep a | .waiveSweep a | .readSweep a | .openJob a
  | .completeJob a | .lookUpJob a | .retireJob _ a | .enterRate _ a | .amendRate _ a | .retireRate _ a
  | .lookUpRate a | .priceJob a | .readInvoiceLine a | .releasePricing _ a | .settleJob _ a | .readAttention a
  | .clearFaults a | .readConfig a | .setConfig a | .unknownRequest _ a => some a
  | .pricingComplete | .exchangeBegin | .exchangeEnd _ _ | .frameArrival _ | .frameCutShort | .linkLoss
  | .strokeTimeout _ | .sweepHoldExpiry | .surveyComplete | .settleReached | .holderInputChange _ _
  | .wrenchDoneRise | .rackedRise | .blankingEnd | .closedRunReachesTransferTime _ | .stageTimeout | .allstopFall
  | .allstopRise | .idleGraceExpiry | .standbyLimitExpiry | .secondMark | .rstFaultClearPulse _ | .resetEntry
  | .start _ | .determinationEnd | .mainPowerLoss | .retentionLostSet | .backupLowChange _ | .frameStart
  | .resetLineFall | .mainPowerReturnInReset => none

/-- Check 1: a request's arguments fit an exchange (R180). -/
def Instr.argsFit (i : Instr) : Bool :=
  match i.args? with
  | some a => a.length ≤ maxArgs
  | none => true

/-- Check 2: UNKNOWN_REQUEST is sent with a code that names no request (R184). -/
def Instr.codeUnknown : Instr → Bool
  | .unknownRequest code _ => namesNoRequest code
  | _ => true

/-- Check 3: a trailing partial byte has 1 to 7 bits, and 0 stands for none (R180). -/
def Instr.partialByte : Instr → Bool
  | .exchangeEnd _ n => n ≤ 7
  | _ => true

/-- Check 4: a pulse on RST_N that does not reset the part is low for less than 200 ms (R198). -/
def Instr.pulseShort : Instr → Bool
  | .rstFaultClearPulse ms => ms < 200
  | _ => true

/-- The well-formed commands. -/
def Instr.wellFormed (i : Instr) : Bool :=
  i.argsFit && i.codeUnknown && i.partialByte && i.pulseShort

end Sys2Proof
end

