-- ==== Sys2Proof/Decode.lean ====
section
/-! DEFINITION. The block has no instruction words: every row of spec/opcode_table.json has an empty list of fields
and no fixed bits, so no word spells a command. -/
namespace Sys2Proof

/-- The command that a word of `nbits` bits spells by the table's bits: none, since no row of the table gives bits. -/
def decodeTableWord (_nbits _w : Nat) : Option Instr := none

end Sys2Proof
end

