-- ==== Sys2Proof/Config.lean ====
section
/-! DEFINITION. The free values: what the manual leaves open and no configuration item fixes. Each is an opaque
constant, applied to the counter `freeCount` of the state, so that no proof can see its value. -/
namespace Sys2Proof.Config

/-- FREE VALUE (log 3). Which of several orders, or of several expiries of one millisecond, is taken where the
manual says that either may be taken first and the outcomes differ. -/
opaque freePick : Nat → Nat

/-- FREE VALUE (log 4). The level found at an input pin that the opcode table gives no row, when a request that
reads it completes at the bound of R181 without a command that carries the level. -/
opaque freeLevel : Nat → Bool

end Sys2Proof.Config
end

