-- ==== Sys2Proof/Machine/State.lean ====
section
/-! DEFINITION. Everything the spec gives the block to hold, as plain data, one structure for each owning block
(00_scope.md, Blocks and how they work together). Views that follow from held data are computed elsewhere (log 12).
[B] marks a field of the backed well and [M] one of the main well (R194). -/
namespace Sys2Proof.Machine

/-! ## The rod inventory unit (R1 to R24) -/

/-- Kind of a piece of steel (R1, R200). -/
inductive RodKind where
  | rod
  | collar
  | sub
deriving DecidableEq, Repr

/-- Status of a rod record (R1). -/
inductive RodStatus where
  | inService
  | worn
deriving DecidableEq, Repr

/-- The one location of a rod record (R2): a rack slot 1..200 or a string position 1..200 where it has a number. -/
inductive Location where
  | rack (slot : Nat)
  | string (position : Nat)
  | quarantine
  | inTransfer
  | uncertain
deriving DecidableEq, Repr

/-- A rod record (R1). Wear is in milli-units; the status is computed from wear and limit. [B] -/
structure RodRecord where
  tag         : Nat
  kind        : RodKind
  length      : Nat
  od          : Nat
  id          : Nat
  mass        : Nat
  wearMilli   : Nat
  wearLimit   : Nat
  location    : Location
  reservation : Option Nat
deriving DecidableEq, Repr

/-- What the rod inventory unit owns (R1 to R10). -/
structure RodUnit where
  /-- The rod table, in the order of entry. [B] -/
  rods     : List RodRecord
  /-- Reserved rack slots: slot and handler entry number (R3, R7). [B] -/
  slotRes  : List (Nat × Nat)
  /-- The string list: tags from the bottom, position 1 first (R4). [B] -/
  members  : List Nat
  /-- Raw bit depth, mm (R5, R6). [M] -/
  rawDepth : Nat
  /-- Reported bit depth, mm (R5, R6). [M] -/
  repDepth : Nat
  /-- Last-worn tag (R10). [M] -/
  lastWorn : Option Nat
  /-- The ROD_WORN notice (R10). [M] -/
  rodWorn  : Bool
deriving DecidableEq, Repr

/-! ## The bore map unit (R25 to R47) -/

/-- A water strike (R29). -/
structure Strike where
  depth : Nat
  level : Option Int
  yield : Option Nat
deriving DecidableEq, Repr

/-- One interval of a map (R28). [B] -/
structure Interval where
  top       : Nat
  bottom    : Nat
  formation : Nat
  hardness  : Nat
  diameter  : Nat
  drillSec  : Nat
  lostMud   : Nat
  inflow    : Nat
  mismatch  : Bool
  strike    : Option Strike
deriving DecidableEq, Repr

/-- What the bore map unit holds beside the maps, which stand in the job records (R26, R34). [M] -/
structure BoreUnit where
  poolExhausted : Bool
  depthDisagree : Bool
deriving DecidableEq, Repr

/-! ## The hub line receiver (R48 to R61) -/

/-- One live quantity: the value last taken and the invalid count (R50, R53). [M] -/
structure Quantity where
  value   : Nat
  invalid : Nat
deriving DecidableEq, Repr

/-- Pumping state of a pump (R56). -/
inductive PumpState where
  | stopped
  | pumping
  | unknown
deriving DecidableEq, Repr

/-- Rotating state (R58). -/
inductive Rotating where
  | no
  | yes
  | unknown
deriving DecidableEq, Repr

/-- What the receiver keeps for one pump (R54, R56). The timer counts while the pump is PUMPING. [M] -/
structure PumpLine where
  ref     : Option Nat
  state   : PumpState
  timerMs : Nat
  resyncs : Nat
deriving DecidableEq, Repr

/-- What the hub line receiver owns (R48 to R59). [M] -/
structure HubUnit where
  strokesA     : Quantity
  strokesB     : Quantity
  pitLevel     : Quantity
  hookLoad     : Quantity
  stickUp      : Quantity
  rotary       : Quantity
  density      : Quantity
  pumpA        : PumpLine
  pumpB        : PumpLine
  linkUp       : Bool
  linkMs       : Nat
  sinceStartMs : Option Nat
  frameOpen    : Bool
  frames       : Nat
  notGood      : Nat
  shortFrames  : Nat
deriving DecidableEq, Repr

/-! ## The handler sequencer and hold interlock (R62 to R88) -/

/-- A handler operation with its argument (R62). -/
inductive Operation where
  | addRod (tag : Nat)
  | pullRod (slot : Nat)
  | transferHold (target : Holder)
deriving DecidableEq, Repr

/-- The kind of a handler operation (R62, R200). -/
inductive OpKind where
  | addRod
  | pullRod
  | transferHold
deriving DecidableEq, Repr

/-- Stage of a queue entry (R62, R75 to R78, R200). -/
inductive Stage where
  | queued
  | waiting
  | setting
  | joining
  | placing
  | lifting
  | unjoining
  | liftingOut
  | racking
deriving DecidableEq, Repr

/-- An entry of the handler queue (R62). `rest` is the part of its path after the present stage. [M] -/
structure Entry where
  num   : Nat
  op    : Operation
  stage : Stage
  rest  : List Stage
deriving DecidableEq, Repr

/-- Why an operation ended ABORTED (R67, R200). -/
inductive AbortReason where
  | timeout
  | cancelled
  | allStop
  | holdFault
  | handlerFault
  | invalid
  | reset
deriving DecidableEq, Repr

/-- The last-outcome record (R67); a present reason is the result ABORTED, an absent one DONE. [M] -/
structure Outcome where
  num    : Nat
  kind   : OpKind
  reason : Option AbortReason
  tag    : Option Nat
deriving DecidableEq, Repr

/-- The head note (R69). [B] -/
structure HeadNote where
  num  : Nat
  kind : OpKind
  tag  : Option Nat
deriving DecidableEq, Repr

/-- A transfer in progress: its target and the target's run, absent while its input is low (R71). [M] -/
structure Transfer where
  target : Holder
  runMs  : Option Nat
deriving DecidableEq, Repr

/-- What the handler sequencer and hold interlock owns (R62 to R88). -/
structure HandlerUnit where
  queue           : List Entry
  nextNum         : Nat
  /-- Stage timer of the head's working stage (R79). [M] -/
  stageMs         : Nat
  transfer        : Option Transfer
  /-- Closed runs, absent while the input is low (R68). [M] -/
  slipsRun        : Option Nat
  elevRun         : Option Nat
  /-- Blanking timer, absent while no blanking is running (R68). [M] -/
  blankingMs      : Option Nat
  /-- Start-up determination, absent while none is running (R87). [M] -/
  determinationMs : Option Nat
  /-- The carrier, absent for NONE (R69). [B] -/
  carrier         : Option Holder
  headNote        : Option HeadNote
  slipsRel        : Bool
  elevRel         : Bool
  rotPermit       : Bool
  wrenchPermit    : Bool
  holdFault       : Bool
  handlerFault    : Bool
  lastOutcome     : Option Outcome
  handlerDone     : Bool
deriving DecidableEq, Repr

/-! ## The circulation unit (R89 to R126) -/

/-- Stroke count and pumped-volume accumulator, centi-mL, of one pump (R98). [M] -/
structure PumpCount where
  strokes : Nat
  volume  : Nat
deriving DecidableEq, Repr

/-- A member as the volumes see it: tag, length, OD, ID (R90). -/
structure Member where
  tag    : Nat
  length : Nat
  od     : Nat
  id     : Nat
deriving DecidableEq, Repr

/-- The inputs of a survey (R99): job slot or 0, members from the bottom, D, and the map with its hole depth. -/
structure Snapshot where
  slot      : Nat
  members   : List Member
  depth     : Nat
  map       : List (Nat × Nat × Nat)
  holeDepth : Nat
deriving DecidableEq, Repr

/-- A running survey (R99, R101). [M] -/
structure Survey where
  snapshot    : Snapshot
  readWaits   : Bool
  sweepWaits  : Bool
  restarts    : Nat
  elapsedMs   : Nat
deriving DecidableEq, Repr

/-- The balance reference (R109). [B] -/
structure Reference where
  valid : Bool
  pRef  : Nat
  hRef  : Nat
  sRef  : Nat
deriving DecidableEq, Repr

/-- Cause of a booking or a reference change (R118, R200). -/
inductive BalanceCause where
  | operation
  | rebase
  | complete
  | openJob
  | firstValue
deriving DecidableEq, Repr

/-- Outcome of a booking (R118, R200). -/
inductive BalanceOutcome where
  | bookedLoss
  | bookedInflow
  | belowHysteresis
  | discardedNoJob
  | skippedStale
  | rebasedOnly
deriving DecidableEq, Repr

/-- The last balance record (R118). [M] -/
structure BalanceRecord where
  cause   : BalanceCause
  outcome : BalanceOutcome
  balance : Option Int
  depth   : Option Nat
  slot    : Nat
  entry   : Option Nat
deriving DecidableEq, Repr

/-- What the circulation unit owns, the sweep state apart (R96 to R126). -/
structure CircUnit where
  pumpA       : PumpCount
  pumpB       : PumpCount
  /-- The survey engine; absent while IDLE (R99). [M] -/
  survey      : Option Survey
  ref         : Reference
  settleMs    : Nat
  loss        : Bool
  gain        : Bool
  pitLow      : Bool
  /-- A pit level value has been taken since the last start (R116). [M] -/
  pitTaken    : Bool
  lastBalance : Option BalanceRecord
deriving DecidableEq, Repr

/-! ## The sweep state (R127 to R142) -/

/-- A sweep in progress (R127): progress in centi-mL, target in mL, hold timer in ms. [M] -/
structure SweepRun where
  progress : Nat
  target   : Option Nat
  holdMs   : Option Nat
deriving DecidableEq, Repr

/-- How an owed sweep or a sweep in progress ended (R136, R200). -/
inductive SweepOutcome where
  | completed
  | endedHold
  | endedDrilling
  | waived
  | endedJobComplete
deriving DecidableEq, Repr

/-- The last sweep record (R136). [M] -/
structure SweepRecord where
  outcome  : SweepOutcome
  slot     : Nat
  target   : Option Nat
  progress : Option Nat
  overdue  : Bool
deriving DecidableEq, Repr

/-- The sweep state (R127). -/
structure SweepUnit where
  /-- [B] -/
  counter : Nat
  /-- [B] -/
  owed    : Bool
  /-- [B] -/
  overdue : Bool
  /-- [M] -/
  current : Option SweepRun
  /-- [M] -/
  last    : Option SweepRecord
deriving DecidableEq, Repr

/-! ## Jobs and rig time (R143 to R158) -/

/-- State of a job (R144, R200). -/
inductive JobState where
  | active
  | complete
  | priced
  | settled
deriving DecidableEq, Repr

/-- The rig's activity (R150). -/
inductive Activity where
  | down
  | drilling
  | reaming
  | tripping
  | circulating
  | idle
  | standby
  | shutdown
deriving DecidableEq, Repr

/-- The eight activity counters of a job, in seconds (R143, R154). -/
structure Seconds where
  down        : Nat
  drilling    : Nat
  reaming     : Nat
  tripping    : Nat
  circulating : Nat
  idle        : Nat
  standby     : Nat
  shutdown    : Nat
deriving DecidableEq, Repr

/-- Charge kind of a rate entry or a line (R159, R200). -/
inductive ChargeKind where
  | footage
  | time
  | mud
  | strike
  | fixed
deriving DecidableEq, Repr

/-- An invoice line (R172); its number is its place in the list, and an absent index marks an unpriced line. -/
structure Line where
  kind   : ChargeKind
  index  : Option Nat
  label  : Option (List Byte)
  qty    : Nat
  rate   : Nat
  amount : Nat
deriving DecidableEq, Repr

/-- A job record (R143). [B] -/
structure Job where
  state     : JobState
  customer  : Nat
  site      : Option (List Byte)
  bandWidth : Nat
  bit       : Nat
  holeDepth : Nat
  map       : List Interval
  seconds   : Seconds
  waived    : Nat
  lines     : List Line
  total     : Nat
deriving DecidableEq, Repr

/-- The job table: four slots, each free or holding one job (R143). [B] -/
structure JobTable where
  slot1 : Option Job
  slot2 : Option Job
  slot3 : Option Job
  slot4 : Option Job
deriving DecidableEq, Repr

/-- What the job and activity unit owns (R143 to R156). -/
structure JobUnit where
  jobs      : JobTable
  activity  : Activity
  /-- Idle timer, running while IDLE (R153). [M] -/
  idleMs    : Nat
  /-- Standby timer, running while STANDBY (R153). [M] -/
  standbyMs : Nat
  /-- Time since the last second mark (R154). [M] -/
  secondMs  : Nat
deriving DecidableEq, Repr

/-! ## Pricing (R159 to R178) -/

/-- A valid rate entry (R159). [B] -/
structure RateEntry where
  kind     : ChargeKind
  hardness : Option (Nat × Nat)
  band     : Option (Nat × Nat)
  diameter : Option (Nat × Nat)
  activity : Option Nat
  rate     : Nat
  label    : Option (List Byte)
deriving DecidableEq, Repr

/-- The working store of a pricing in progress (R167). [M] -/
structure Pricing where
  slot      : Nat
  lines     : List Line
  elapsedMs : Nat
deriving DecidableEq, Repr

/-- What the pricing unit owns beside the lines of the jobs (R159 to R174). -/
structure PricingUnit where
  /-- The 32 entries, index 0 first; an absent one is invalid (R159). [B] -/
  rates    : List (Option RateEntry)
  /-- The unpriced set, job slots in rising order (R174). [M] -/
  unpriced : List Nat
  working  : Option Pricing
deriving DecidableEq, Repr

/-! ## The record port (R179 to R193) -/

/-- The reply codes (R184). -/
inductive ReplyCode where
  | done
  | doneClamped
  | notFound
  | full
  | wrongState
  | locked
  | outOfRange
  | inUse
  | noJob
  | unknownRequest
  | notReady
  | noneYet
deriving DecidableEq, Repr

/-- A reply: its code and its body (R182). -/
structure Reply where
  code : ReplyCode
  body : List Byte
deriving DecidableEq, Repr

/-- The request engine (R181): IDLE, or BUSY with a request accepted and not yet completed (with the time since
its acceptance), with a READ CIRCULATION that waits for its survey, or with a PRICE JOB whose pricing runs. [M] -/
inductive Engine where
  | idle
  | accepted (code : Byte) (args : List Byte) (ms : Nat)
  | surveying
  | pricing
deriving DecidableEq, Repr

/-- The exchange in progress (R179, R193): none while PSEL_N is high, ignored, or open with its snapshot. [M] -/
inductive Exchange where
  | none
  | ignored
  | open (summary : Byte) (reply : Reply)
deriving DecidableEq, Repr

/-- Kind of a malformed exchange (R188, R200). -/
inductive MalformedKind where
  | none
  | partialByte
  | short
  | long
  | lengthRange
deriving DecidableEq, Repr

/-- What the record port owns (R179 to R188). [M] -/
structure PortUnit where
  engine    : Engine
  held      : Reply
  exchange  : Exchange
  errors    : Nat
  lastKind  : MalformedKind
  discards  : Nat
  portError : Bool
deriving DecidableEq, Repr

/-- The nineteen attention causes (R185). -/
inductive Cause where
  | holdFault
  | allStop
  | gain
  | loss
  | pitLow
  | sensor
  | handlerFault
  | sweepOverdue
  | sweepDue
  | rodUncertain
  | weightMismatch
  | depthDisagree
  | handlerDone
  | rodWorn
  | pool
  | unpriced
  | backupLow
  | powerOn
  | portError
deriving DecidableEq, Repr

/-- The configuration store (R190, R204), every item in its own unit; `masked` lists the causes whose mask is set,
in the order of their numbers. [B] -/
structure ConfigStore where
  makeUpWear    : Nat
  blockWeight   : Nat
  weightMargin  : Nat
  strokeTimeout : Nat
  rotThreshold  : Nat
  transferTime  : Nat
  transferLimit : Nat
  blankingTime  : Nat
  wrenchLimit   : Nat
  rackLimit     : Nat
  strict        : Nat
  dispA         : Nat
  effA          : Nat
  dispB         : Nat
  effB          : Nat
  pitArea       : Nat
  settleTime    : Nat
  lossThreshold : Nat
  gainThreshold : Nat
  balanceHyst   : Nat
  lowPit        : Nat
  pitHyst       : Nat
  mudDensity    : Nat
  sweepSpacing  : Nat
  sweepFactor   : Nat
  sweepHold     : Nat
  onBottomTol   : Nat
  idleGrace     : Nat
  standbyLimit  : Nat
  masked        : List Cause
deriving DecidableEq, Repr

/-! ## Power, start-up and pins (R194 to R199, R205) -/

/-- Whether main power is absent, the part is in reset, or the part runs (R195, R198). -/
inductive Phase where
  | off
  | inReset
  | running
deriving DecidableEq, Repr

/-- The POWER_ON start mark (R187, R199); NONE is POWER_ON not pending. -/
inductive StartMark where
  | none
  | warm
  | cold
deriving DecidableEq, Repr

/-- What the retention monitor and start-up control own (R195 to R199). -/
structure PowerUnit where
  phase         : Phase
  retentionLost : Bool
  startMark     : StartMark
  /-- Time RST_N has been low, absent while it is high (R198). -/
  rstLowMs      : Option Nat
deriving DecidableEq, Repr

/-- The levels of the input pins as last sampled (R205); true is high, and `vbakLow` is VBAK below the threshold. -/
structure Pins where
  slipsClosed : Bool
  elevClosed  : Bool
  wrenchDone  : Bool
  racked      : Bool
  allstopN    : Bool
  rateKey     : Bool
  vbakLow     : Bool
deriving DecidableEq, Repr

/-- The state of the block, with the queue of the commands that wait, oldest first, and the counter to which the
free values are applied (log 3). -/
structure State where
  rod       : RodUnit
  bore      : BoreUnit
  hub       : HubUnit
  handler   : HandlerUnit
  circ      : CircUnit
  sweep     : SweepUnit
  job       : JobUnit
  pricing   : PricingUnit
  port      : PortUnit
  config    : ConfigStore
  power     : PowerUnit
  pins      : Pins
  pending   : List Instr
  freeCount : Nat
deriving DecidableEq, Repr

/-- The state with its `rod` part replaced. -/
def State.setRod (s : State) (x : RodUnit) : State := ⟨x, s.bore, s.hub, s.handler, s.circ, s.sweep, s.job, s.pricing, s.port, s.config, s.power, s.pins, s.pending, s.freeCount⟩
/-- The state with its `bore` part replaced. -/
def State.setBore (s : State) (x : BoreUnit) : State := ⟨s.rod, x, s.hub, s.handler, s.circ, s.sweep, s.job, s.pricing, s.port, s.config, s.power, s.pins, s.pending, s.freeCount⟩
/-- The state with its `hub` part replaced. -/
def State.setHub (s : State) (x : HubUnit) : State := ⟨s.rod, s.bore, x, s.handler, s.circ, s.sweep, s.job, s.pricing, s.port, s.config, s.power, s.pins, s.pending, s.freeCount⟩
/-- The state with its `handler` part replaced. -/
def State.setHandler (s : State) (x : HandlerUnit) : State := ⟨s.rod, s.bore, s.hub, x, s.circ, s.sweep, s.job, s.pricing, s.port, s.config, s.power, s.pins, s.pending, s.freeCount⟩
/-- The state with its `circ` part replaced. -/
def State.setCirc (s : State) (x : CircUnit) : State := ⟨s.rod, s.bore, s.hub, s.handler, x, s.sweep, s.job, s.pricing, s.port, s.config, s.power, s.pins, s.pending, s.freeCount⟩
/-- The state with its `sweep` part replaced. -/
def State.setSweep (s : State) (x : SweepUnit) : State := ⟨s.rod, s.bore, s.hub, s.handler, s.circ, x, s.job, s.pricing, s.port, s.config, s.power, s.pins, s.pending, s.freeCount⟩
/-- The state with its `job` part replaced. -/
def State.setJob (s : State) (x : JobUnit) : State := ⟨s.rod, s.bore, s.hub, s.handler, s.circ, s.sweep, x, s.pricing, s.port, s.config, s.power, s.pins, s.pending, s.freeCount⟩
/-- The state with its `pricing` part replaced. -/
def State.setPricing (s : State) (x : PricingUnit) : State := ⟨s.rod, s.bore, s.hub, s.handler, s.circ, s.sweep, s.job, x, s.port, s.config, s.power, s.pins, s.pending, s.freeCount⟩
/-- The state with its `port` part replaced. -/
def State.setPort (s : State) (x : PortUnit) : State := ⟨s.rod, s.bore, s.hub, s.handler, s.circ, s.sweep, s.job, s.pricing, x, s.config, s.power, s.pins, s.pending, s.freeCount⟩
/-- The state with its `config` part replaced. -/
def State.setConfig (s : State) (x : ConfigStore) : State := ⟨s.rod, s.bore, s.hub, s.handler, s.circ, s.sweep, s.job, s.pricing, s.port, x, s.power, s.pins, s.pending, s.freeCount⟩
/-- The state with its `power` part replaced. -/
def State.setPower (s : State) (x : PowerUnit) : State := ⟨s.rod, s.bore, s.hub, s.handler, s.circ, s.sweep, s.job, s.pricing, s.port, s.config, x, s.pins, s.pending, s.freeCount⟩
/-- The state with its `pins` part replaced. -/
def State.setPins (s : State) (x : Pins) : State := ⟨s.rod, s.bore, s.hub, s.handler, s.circ, s.sweep, s.job, s.pricing, s.port, s.config, s.power, x, s.pending, s.freeCount⟩
/-- The state with its `pending` part replaced. -/
def State.setPending (s : State) (x : List Instr) : State := ⟨s.rod, s.bore, s.hub, s.handler, s.circ, s.sweep, s.job, s.pricing, s.port, s.config, s.power, s.pins, x, s.freeCount⟩
/-- The state with its `freeCount` part replaced. -/
def State.setFreeCount (s : State) (x : Nat) : State := ⟨s.rod, s.bore, s.hub, s.handler, s.circ, s.sweep, s.job, s.pricing, s.port, s.config, s.power, s.pins, s.pending, x⟩

/-- The spec names no event that stops the part, so no fault is ever raised. -/
inductive Fault where
deriving DecidableEq, Repr

/-- The refusals. Both are safe: the model stops where it says nothing about the part. -/
inductive Refusal where
  /-- Raised by exec alone, for a command that has no meaning yet. Safe. -/
  | notModelled (mnemonic : String)
  /-- Raised by UNKNOWN_REQUEST for an ill-formed command whose code is 0x00 or does name a request: no event of
  the spec is such a command (R180, R184; log 24). Safe. -/
  | codeNamesARequest
deriving DecidableEq, Repr

/-! ## Start values -/

/-- The defaults of the configuration items (R204), with every mask clear (R190). -/
def ConfigStore.defaults : ConfigStore where
  makeUpWear    := 2
  blockWeight   := 150
  weightMargin  := 100
  strokeTimeout := 2000
  rotThreshold  := 5
  transferTime  := 1000
  transferLimit := 20
  blankingTime  := 300
  wrenchLimit   := 30
  rackLimit     := 90
  strict        := 1
  dispA         := 18500
  effA          := 95
  dispB         := 18500
  effB          := 95
  pitArea       := 800
  settleTime    := 60
  lossThreshold := 400
  gainThreshold := 300
  balanceHyst   := 100
  lowPit        := 400
  pitHyst       := 100
  mudDensity    := 1080
  sweepSpacing  := 18000
  sweepFactor   := 150
  sweepHold     := 180
  onBottomTol   := 300
  idleGrace     := 15
  standbyLimit  := 10
  masked        := []

/-- The rod inventory unit after a cold start (R24). -/
def RodUnit.cold : RodUnit := ⟨[], [], [], 0, 0, none, false⟩

/-- The bore map unit's marks after any start (R47). -/
def BoreUnit.start : BoreUnit := ⟨false, false⟩

/-- A quantity after any start (R61). -/
def Quantity.start : Quantity := ⟨0, 25⟩

/-- A pump's line after any start (R61). Of the stroke timer R61 names no value: it stands at 0 then, and while the pump
is not PUMPING (DESIGN CHOICE, log 8). -/
def PumpLine.start : PumpLine := ⟨none, .unknown, 0, 0⟩

/-- The hub line receiver after any start (R61). -/
def HubUnit.start : HubUnit where
  strokesA     := .start
  strokesB     := .start
  pitLevel     := .start
  hookLoad     := .start
  stickUp      := .start
  rotary       := .start
  density      := .start
  pumpA        := .start
  pumpB        := .start
  linkUp       := false
  linkMs       := 0
  sinceStartMs := none
  frameOpen    := false
  frames       := 0
  notGood      := 0
  shortFrames  := 0

/-- The handler after a start (R87, R88), from the carrier and the head note that the backed well holds and the
levels found at the holder inputs: the determination period runs, and a head note becomes the last outcome. -/
def HandlerUnit.start (carrier : Option Holder) (note : Option HeadNote) (slips elev : Bool) : HandlerUnit where
  queue           := []
  nextNum         := 1
  stageMs         := 0
  transfer        := none
  slipsRun        := if slips then some 0 else none
  elevRun         := if elev then some 0 else none
  blankingMs      := none
  determinationMs := some 0
  carrier         := carrier
  headNote        := none
  slipsRel        := false
  elevRel         := false
  rotPermit       := false
  wrenchPermit    := false
  holdFault       := false
  handlerFault    := false
  lastOutcome     := note.map fun n => ⟨n.num, n.kind, some .reset, n.tag⟩
  handlerDone     := note.isSome

/-- The circulation unit after a start (R106, R125): the kept reference values, INVALID. -/
def CircUnit.start (ref : Reference) : CircUnit where
  pumpA       := ⟨0, 0⟩
  pumpB       := ⟨0, 0⟩
  survey      := none
  ref         := ⟨false, ref.pRef, ref.hRef, ref.sRef⟩
  settleMs    := 0
  loss        := false
  gain        := false
  pitLow      := false
  pitTaken    := false
  lastBalance := none

/-- The sweep state after a start (R142), from the backed counter, flag and mark. -/
def SweepUnit.start (counter : Nat) (owed overdue : Bool) : SweepUnit := ⟨counter, owed, overdue, none, none⟩

/-- The empty job table (R157). -/
def JobTable.empty : JobTable := ⟨none, none, none, none⟩

/-- The job and activity unit after a start (R157): IDLE or DOWN. -/
def JobUnit.start (jobs : JobTable) (idle : Bool) : JobUnit :=
  ⟨jobs, if idle then .idle else .down, 0, 0, 0⟩

/-- The pricing unit after a start (R178), from the backed rate table. -/
def PricingUnit.start (rates : List (Option RateEntry)) : PricingUnit := ⟨rates, [], none⟩

/-- The rate table with every entry invalid (R178). -/
def PricingUnit.noRates : List (Option RateEntry) := List.replicate 32 none

/-- The record port after any start (R193); an exchange whose PSEL_N is already low is ignored. -/
def PortUnit.start (pselLow : Bool) : PortUnit :=
  ⟨.idle, ⟨.noneYet, []⟩, if pselLow then .ignored else .none, 0, .none, 0, false⟩

/-- Levels at the pins for State.reset (DESIGN CHOICE, unsafe, log 7): holders open, chain closed, keyswitch off,
backup cell good, PSEL_N high. -/
def levelsAtReset : StartLevels := ⟨false, false, false, false, true, false, false, false⟩

/-- The pins as a start samples them (R195). -/
def Pins.ofLevels (l : StartLevels) : Pins :=
  ⟨l.slipsClosed, l.elevClosed, l.wrenchDone, l.racked, l.allstopN, l.rateKey, l.vbakLow⟩

/-- The machine right after a cold start (R24, R47, R61, R88, R106, R125, R142, R157, R178, R193, R199), with the
pin levels of `levelsAtReset` and an empty queue. -/
def State.reset : State where
  rod       := .cold
  bore      := .start
  hub       := .start
  handler   := .start none none false false
  circ      := .start ⟨false, 0, 0, 0⟩
  sweep     := .start 0 false false
  job       := .start .empty true
  pricing   := .start PricingUnit.noRates
  port      := .start false
  config    := .defaults
  power     := ⟨.running, false, .cold, none⟩
  pins      := .ofLevels levelsAtReset
  pending   := []
  freeCount := 0

end Sys2Proof.Machine
end

