-- ==== Sys2Proof/Machine/Ops.lean ====
section
/-! DEFINITION. The operations that every block uses: byte order, free orders, the rod table, the rack, the string,
the job table and the interval pool. -/
namespace Sys2Proof.Machine

/-! ## Bytes (R200: most significant byte first) -/

/-- The low `n` bytes of a number, most significant first. -/
def be : Nat → Nat → List Byte
  | 0, _ => []
  | n + 1, v => BitVec.ofNat 8 (v / 256 ^ n) :: be n v

/-- The number that bytes spell, most significant first. -/
def fromBE (bytes : List Byte) : Nat := bytes.foldl (fun acc b => acc * 256 + b.toNat) 0

/-- A signed number in `n` bytes of two's complement (R200, R201). -/
def beInt (n : Nat) (i : Int) : List Byte := be n (i % (256 ^ n : Nat)).toNat

/-- The signed reading of `n` bytes whose unsigned reading is `v` (R201). -/
def signedOf (n v : Nat) : Int := if v < 256 ^ n / 2 then (v : Int) else (v : Int) - (256 ^ n : Nat)

/-- A field of two states in one byte (R200). -/
def flag (b : Bool) : List Byte := [if b then 1 else 0]

/-- An optional field: its presence byte and then its full width, zeros when absent (R201). -/
def opt (width : Nat) (x : Option Nat) : List Byte :=
  match x with
  | some v => 1 :: be width v
  | none => List.replicate (width + 1) 0

/-- An optional signed field (R201). -/
def optInt (width : Nat) (x : Option Int) : List Byte :=
  match x with
  | some v => 1 :: beInt width v
  | none => List.replicate (width + 1) 0

/-- Text of a fixed width, padded at the end with 0x20 (R200). -/
def text (width : Nat) (t : List Byte) : List Byte := (t ++ List.replicate width 0x20).take width

/-- An optional text field (R201). -/
def optText (width : Nat) (x : Option (List Byte)) : List Byte :=
  match x with
  | some t => 1 :: text width t
  | none => List.replicate (width + 1) 0

/-! ## Ceilings -/

/-- Addition that stops at a ceiling. -/
def satAdd (ceiling a b : Nat) : Nat := min (a + b) ceiling

/-- The ceiling of the 4-byte totals (R28, R143). -/
def max32 : Nat := 4294967295

/-- The ceiling of the 48-bit counts (R98, R127). -/
def max48 : Nat := 281474976710655

/-- The wear ceiling in milli-units (R1). -/
def maxWear : Nat := 65535999

/-- The greatest depth of any hole, mm (R32). -/
def maxDepth : Nat := 1500000

/-! ## Free orders (log 3) -/

/-- Every way to put `x` into a list. -/
def insertions {α : Type} (x : α) : List α → List (List α)
  | [] => [[x]]
  | y :: ys => (x :: y :: ys) :: (insertions x ys).map (y :: ·)

/-- Every order of a list. -/
def orders {α : Type} : List α → List (List α)
  | [] => [[]]
  | x :: xs => (orders xs).flatMap (insertions x)

/-- Events taken one after another. -/
def inOrder (fs : List (State → State)) (s : State) : State := fs.foldl (fun t f => f t) s

/-- Parts of which the manual lets any be taken first: where every order gives one state, that state; else the
state of an order that a free value picks (log 3). -/
def anyOrder (fs : List (State → State)) (s : State) : State :=
  match (orders fs).map (fun o => inOrder o s) with
  | [] => s
  | r :: rs =>
    if rs.all (fun t => decide (t = r)) then r
    else
      let t := (r :: rs).getD (Config.freePick s.freeCount % (rs.length + 1)) r
      t.setFreeCount (t.freeCount + 1)

/-! ## The rod table, the rack and the string (R1 to R5) -/

/-- Wear in units: milli-units divided by 1,000, rounded down (R1). -/
def RodRecord.wearUnits (r : RodRecord) : Nat := r.wearMilli / 1000

/-- Status: IN_SERVICE while the wear in units is below the limit, WORN at or above it (R1). -/
def RodRecord.status (r : RodRecord) : RodStatus := if r.wearUnits < r.wearLimit then .inService else .worn

/-- The record of a tag (R1). -/
def RodUnit.find (u : RodUnit) (tag : Nat) : Option RodRecord := u.rods.find? (fun r => r.tag == tag)

/-- The record of a tag changed by `f`; every other record stands. -/
def RodUnit.modify (u : RodUnit) (tag : Nat) (f : RodRecord → RodRecord) : RodUnit :=
  { u with rods := u.rods.map fun r => if r.tag = tag then f r else r }

/-- A record moved to a location (R2). -/
def RodUnit.move (u : RodUnit) (tag : Nat) (l : Location) : RodUnit :=
  u.modify tag fun r => { r with location := l }

/-- The tag lying in a rack slot, absent for a free slot (R3). -/
def RodUnit.occupant (u : RodUnit) (slot : Nat) : Option Nat :=
  (u.rods.find? fun r => r.location == .rack slot).map (·.tag)

/-- The entry that reserved a rack slot (R3, R7). -/
def RodUnit.slotReservation (u : RodUnit) (slot : Nat) : Option Nat := u.slotRes.lookup slot

/-- Whether a slot is both free and unreserved (R3). -/
def RodUnit.slotOpen (u : RodUnit) (slot : Nat) : Bool :=
  (u.occupant slot).isNone && (u.slotReservation slot).isNone

/-- Whether a record lies in a rack slot (R2). -/
def RodRecord.racked (r : RodRecord) : Bool :=
  match r.location with
  | .rack _ => true
  | _ => false

/-- Whether any record is UNCERTAIN (R8). -/
def RodUnit.anyUncertain (u : RodUnit) : Bool := u.rods.any fun r => r.location == .uncertain

/-- The reservations of one handler entry released; nothing else changes (R7). -/
def RodUnit.release (u : RodUnit) (num : Nat) : RodUnit :=
  { u with
    rods := u.rods.map fun r => if r.reservation = some num then { r with reservation := none } else r
    slotRes := u.slotRes.filter fun p => p.2 != num }

/-- A rod that is IN_TRANSFER becomes UNCERTAIN and loses its reservation (R8, R82). -/
def RodUnit.strand (u : RodUnit) : RodUnit :=
  { u with rods := u.rods.map fun r =>
      if r.location = .inTransfer then { r with location := .uncertain, reservation := none } else r }

/-- The records of the string's members from the bottom (R4). -/
def RodUnit.memberRecords (u : RodUnit) : List RodRecord := u.members.filterMap u.find

/-- The string length, mm (R5). -/
def RodUnit.stringLength (u : RodUnit) : Nat := (u.memberRecords.map (·.length)).sum

/-- A rod appended at the top of the string (R4, R8). -/
def RodUnit.append (u : RodUnit) (tag : Nat) : RodUnit :=
  { u.move tag (.string (u.members.length + 1)) with members := u.members ++ [tag] }

/-- The top member removed, IN_TRANSFER (R8). -/
def RodUnit.removeTop (u : RodUnit) : RodUnit :=
  match u.members.getLast? with
  | some tag => { u.move tag .inTransfer with members := u.members.dropLast }
  | none => u

/-! ## The job table (R143, R144) -/

/-- The job in a slot; a number outside 1..4 names no slot. -/
def JobTable.get (t : JobTable) : Nat → Option Job
  | 1 => t.slot1
  | 2 => t.slot2
  | 3 => t.slot3
  | 4 => t.slot4
  | _ => none

/-- A slot's job replaced. -/
def JobTable.put (t : JobTable) (n : Nat) (x : Option Job) : JobTable :=
  match n with
  | 1 => ⟨x, t.slot2, t.slot3, t.slot4⟩
  | 2 => ⟨t.slot1, x, t.slot3, t.slot4⟩
  | 3 => ⟨t.slot1, t.slot2, x, t.slot4⟩
  | 4 => ⟨t.slot1, t.slot2, t.slot3, x⟩
  | _ => t

/-- The slot numbers of the job table. -/
def jobSlots : List Nat := [1, 2, 3, 4]

/-- The job of a slot if it is ACTIVE. -/
def JobTable.activeAt (t : JobTable) (n : Nat) : Option (Nat × Job) :=
  (t.get n).bind fun j => if j.state = .active then some (n, j) else none

/-- The ACTIVE job with its slot (R144). -/
def JobTable.active (t : JobTable) : Option (Nat × Job) := jobSlots.findSome? t.activeAt

/-- The lowest-numbered free slot (R146). -/
def JobTable.freeSlot (t : JobTable) : Option Nat := jobSlots.find? fun n => (t.get n).isNone

/-- The ACTIVE job with its slot. -/
def State.activeJob (s : State) : Option (Nat × Job) := s.job.jobs.active

/-- The ACTIVE job's slot, or 0 (R118). -/
def State.activeSlot (s : State) : Nat :=
  match s.activeJob with
  | some (n, _) => n
  | none => 0

/-- The hole depth of the ACTIVE job, or 0. -/
def State.holeDepth (s : State) : Nat :=
  match s.activeJob with
  | some (_, j) => j.holeDepth
  | none => 0

/-- A slot of the job table replaced. -/
def State.putJob (s : State) (n : Nat) (x : Option Job) : State :=
  s.setJob { s.job with jobs := s.job.jobs.put n x }

/-- The job of a slot changed by `f`, if there is one. -/
def State.modifyJob (s : State) (n : Nat) (f : Job → Job) : State :=
  match s.job.jobs.get n with
  | some j => s.putJob n (some (f j))
  | none => s

/-- The ACTIVE job changed by `f`, if there is one. -/
def State.modifyActive (s : State) (f : Job → Job) : State :=
  match s.activeJob with
  | some (n, j) => s.putJob n (some (f j))
  | none => s

/-! ## The interval pool (R25, R26) -/

/-- The number of intervals in a slot's map. -/
def JobTable.intervalsAt (t : JobTable) (n : Nat) : Nat :=
  match t.get n with
  | some j => j.map.length
  | none => 0

/-- The free pool records: 128 less the intervals of all maps (R25). -/
def State.poolFree (s : State) : Nat := 128 - (jobSlots.map s.job.jobs.intervalsAt).sum

/-- The exhaustion mark clears when POOL clears (R26). -/
def poolRefresh (s : State) : State :=
  if s.poolFree > 8 then s.setBore { s.bore with poolExhausted := false } else s

/-! ## Phases -/

/-- Whether the part takes events: it has main power and is not in reset (R195, R198). -/
def State.running (s : State) : Bool := s.power.phase == .running

/-- An event that only a running part takes. -/
def whenRunning (f : State → State) (s : State) : State := if s.running then f s else s

end Sys2Proof.Machine
end

