-- ==== Sys2Proof/Machine/Flags.lean ====
section
/-! DEFINITION. The states and causes that follow from held data at every moment: freshness, rotation, pumping, the
settled state, the weight check, the attention causes, the status summary, ATTN_N, the pump permits and PDO. -/
namespace Sys2Proof.Machine

/-! ## Live values (R53, R56, R58) -/

/-- Stale while the invalid count stands at 25 (R53). -/
def Quantity.stale (q : Quantity) : Bool := 25 ≤ q.invalid

/-- The rotating state (R58). -/
def State.rotating (s : State) : Rotating :=
  if s.hub.rotary.stale then .unknown
  else if s.config.rotThreshold ≤ s.hub.rotary.value then .yes else .no

/-- The rig is pumping while at least one pump is PUMPING (R56). -/
def State.anyPumping (s : State) : Bool := s.hub.pumpA.state == .pumping || s.hub.pumpB.state == .pumping

/-- The activity hold mark (R152): the rotating state or a pumping state is UNKNOWN. -/
def State.holdMark (s : State) : Bool :=
  s.rotating == .unknown || s.hub.pumpA.state == .unknown || s.hub.pumpB.state == .unknown

/-- Whether any of the seven quantities is stale (R59). -/
def HubUnit.anyStale (h : HubUnit) : Bool :=
  h.strokesA.stale || h.strokesB.stale || h.pitLevel.stale || h.hookLoad.stale || h.stickUp.stale ||
    h.rotary.stale || h.density.stale

/-! ## Handler (R62, R68, R74) -/

/-- A working stage: the head is past WAITING (R62). -/
def Stage.working : Stage → Bool
  | .queued => false
  | .waiting => false
  | .setting => true
  | .joining => true
  | .placing => true
  | .lifting => true
  | .unjoining => true
  | .liftingOut => true
  | .racking => true

/-- The stage of the head, absent with an empty queue. -/
def HandlerUnit.headStage (h : HandlerUnit) : Option Stage := h.queue.head?.map (·.stage)

/-- An operation is past WAITING while the head is in a working stage (R62). -/
def HandlerUnit.pastWaiting (h : HandlerUnit) : Bool :=
  match h.queue with
  | e :: _ => e.stage.working
  | [] => false

/-- The level of a holder's confirmation input (R68). -/
def Pins.closed (p : Pins) : Holder → Bool
  | .slips => p.slipsClosed
  | .elevator => p.elevClosed

/-- A holder is confirmed open while its input is low and no blanking is running (R68). -/
def State.confirmedOpen (s : State) (h : Holder) : Bool := !s.pins.closed h && s.handler.blankingMs.isNone

/-- Whether a fault latch is set (R186). -/
def HandlerUnit.anyFault (h : HandlerUnit) : Bool := h.holdFault || h.handlerFault

/-! ## Balance (R111, R116) -/

/-- The balance is settled while the settle timer stands at or beyond the settle time (R111). -/
def State.settled (s : State) : Bool := s.config.settleTime * 1000 ≤ s.circ.settleMs

/-- PUMP_A_PERMIT and PUMP_B_PERMIT, driven alike (R116); withdrawn while the part does not run (R195, R198). -/
def State.pumpPermit (s : State) : Bool :=
  s.running && !s.circ.pitLow && s.pins.allstopN && !s.handler.pastWaiting && s.circ.pitTaken

/-! ## Hook load (R11, R12) -/

/-- The density in use: the hub's while fresh, the configuration item otherwise (R11, R122). -/
def State.densityInUse (s : State) : Nat :=
  if s.hub.density.stale then s.config.mudDensity else s.hub.density.value

/-- M, the sum of mass per metre times length over the members (R11). -/
def RodUnit.massSum (u : RodUnit) : Nat := (u.memberRecords.map fun r => r.mass * r.length).sum

/-- The expected hook load in units of 0.1 kN (R11). -/
def State.expectedHookLoad (s : State) : Nat :=
  s.rod.massSum * 981 * (7850 - s.densityInUse) / 7850000000 + s.config.blockWeight

/-- The state of the weight check (R12, R200). -/
inductive WeightState where
  | notEvaluated
  | within
  | mismatch
deriving DecidableEq, Repr

/-- The weight check is evaluating (R12). -/
def State.weighing (s : State) : Bool :=
  !s.rod.members.isEmpty && s.handler.carrier == some .elevator && s.confirmedOpen .slips && !s.hub.hookLoad.stale

/-- The weight check (R12): a mismatch where the absolute difference exceeds the margin. -/
def State.weightState (s : State) : WeightState :=
  if s.weighing then
    if ((s.hub.hookLoad.value : Int) - s.expectedHookLoad).natAbs ≤ s.config.weightMargin then .within else .mismatch
  else .notEvaluated

/-! ## The attention set (R185, R186) -/

/-- The nineteen causes in the order of their numbers (R185). -/
def Cause.all : List Cause :=
  [.holdFault, .allStop, .gain, .loss, .pitLow, .sensor, .handlerFault, .sweepOverdue, .sweepDue, .rodUncertain,
   .weightMismatch, .depthDisagree, .handlerDone, .rodWorn, .pool, .unpriced, .backupLow, .powerOn, .portError]

/-- The number of a cause, 1 the highest priority (R185). -/
def Cause.number : Cause → Nat
  | .holdFault => 1
  | .allStop => 2
  | .gain => 3
  | .loss => 4
  | .pitLow => 5
  | .sensor => 6
  | .handlerFault => 7
  | .sweepOverdue => 8
  | .sweepDue => 9
  | .rodUncertain => 10
  | .weightMismatch => 11
  | .depthDisagree => 12
  | .handlerDone => 13
  | .rodWorn => 14
  | .pool => 15
  | .unpriced => 16
  | .backupLow => 17
  | .powerOn => 18
  | .portError => 19

/-- Whether a cause is pending (R185): each follows the state of the block that owns it. -/
def State.isPending (s : State) : Cause → Bool
  | .holdFault => s.handler.holdFault
  | .allStop => !s.pins.allstopN
  | .gain => s.circ.gain
  | .loss => s.circ.loss
  | .pitLow => s.circ.pitLow
  | .sensor => !s.hub.linkUp || s.hub.anyStale
  | .handlerFault => s.handler.handlerFault
  | .sweepOverdue => s.sweep.overdue
  | .sweepDue => s.sweep.owed
  | .rodUncertain => s.rod.anyUncertain
  | .weightMismatch => s.weightState == .mismatch
  | .depthDisagree => s.bore.depthDisagree
  | .handlerDone => s.handler.handlerDone
  | .rodWorn => s.rod.rodWorn
  | .pool => s.poolFree ≤ 8
  | .unpriced => !s.pricing.unpriced.isEmpty
  | .backupLow => s.power.phase != .off && s.pins.vbakLow
  | .powerOn => s.power.startMark != .none
  | .portError => s.port.portError

/-- Whether a cause is masked (R185, R190). -/
def ConfigStore.isMasked (c : ConfigStore) (x : Cause) : Bool := c.masked.contains x

/-- The highest-priority cause that is pending and not masked (R186). -/
def State.topCause (s : State) : Option Cause :=
  Cause.all.find? fun c => s.isPending c && !s.config.isMasked c

/-- Whether the request engine is BUSY (R181). -/
def PortUnit.busy (p : PortUnit) : Bool := p.engine != .idle

/-- The status summary (R186). -/
def State.summary (s : State) : Byte :=
  BitVec.ofNat 8 ((if s.topCause.isSome then 128 else 0) + (if s.port.busy then 64 else 0) +
    (if s.handler.anyFault then 32 else 0) + (s.topCause.map Cause.number).getD 0)

/-- The level of ATTN_N, true for high (R186, R193, R195). -/
def State.attnN (s : State) : Bool := !(s.running && s.topCause.isSome)

/-! ## PDO (R179, R193, R195) -/

/-- The code of a reply (R184). -/
def ReplyCode.byte : ReplyCode → Byte
  | .done => 0x00
  | .doneClamped => 0x01
  | .notFound => 0x10
  | .full => 0x11
  | .wrongState => 0x12
  | .locked => 0x13
  | .outOfRange => 0x14
  | .inUse => 0x15
  | .noJob => 0x16
  | .unknownRequest => 0x17
  | .notReady => 0xFE
  | .noneYet => 0xFF

/-- What PDO carries: not driven, held high, or the bytes of the snapshot and 0x00 after them for as long as the host
clocks (R179). -/
inductive Pdo where
  | undriven
  | high
  | bytes (out : List Byte)
deriving DecidableEq, Repr

/-- The bytes of the snapshot that an exchange clocks out (R179, items 1 to 4). -/
def snapshotBytes (summary : Byte) (r : Reply) : List Byte :=
  summary :: r.code.byte :: BitVec.ofNat 8 r.body.length :: r.body

/-- The output PDO (R179, R193, R195). An ignored exchange is given no snapshot, and PDO is not driven for it. -/
def State.pdo (s : State) : Pdo :=
  match s.power.phase with
  | .off => .undriven
  | .inReset => .high
  | .running =>
    match s.port.exchange with
    | .none => .undriven
    | .ignored => .undriven
    | .open summary r => .bytes (snapshotBytes summary r)

/-- The byte of an exchange, counted from 0, that PDO carries: the snapshot's, and 0x00 for each further byte that the
host clocks (R179, item 5); 0xFF for every byte while PDO is held high (R186, R193); absent where it is not driven. -/
def Pdo.byte (n : Nat) : Pdo → Option Byte
  | .undriven => none
  | .high => some 0xFF
  | .bytes out => some (out.getD n 0)

end Sys2Proof.Machine
end

