-- ==== Sys2Proof/Machine/Volumes.lean ====
section
/-! DEFINITION. Cross-section, placement, the four volumes (R89 to R95) and the survey engine (R99 to R103). -/
namespace Sys2Proof.Machine

/-- The cross-section of a circle of diameter `d` mm, in mm² (R89). -/
def area (d : Nat) : Nat := d ^ 2 * 7854 / 10000

/-- A stretch of hole with the steel that stands in it; OD and ID 0 for open hole (R90). -/
structure Span where
  lo : Nat
  hi : Nat
  od : Nat
  id : Nat
deriving DecidableEq, Repr

/-- The spans of the members from the bit upward, `below` being the length placed so far, and the open hole above
them; what lies above the datum is discarded by the truncated subtraction (R90). -/
def spansFrom (depth : Nat) : List Member → Nat → List Span
  | [], below => [⟨0, depth - below, 0, 0⟩]
  | m :: ms, below => ⟨depth - (below + m.length), depth - below, m.od, m.id⟩ :: spansFrom depth ms (below + m.length)

/-- The placement of the members in [0, D) (R90). -/
def spans (depth : Nat) (ms : List Member) : List Span := spansFrom depth ms 0

/-- The common length of two stretches. -/
def overlap (lo₁ hi₁ lo₂ hi₂ : Nat) : Nat := min hi₁ hi₂ - max lo₁ lo₂

/-- The annular volume of one interval, mm³, over the stretches of it that one member spans (R91, R92). -/
def annularOf (sp : List Span) (i : Nat × Nat × Nat) : Nat :=
  (sp.map fun m => (area i.2.2 - area m.od) * overlap m.lo m.hi i.1 i.2.1).sum

/-- The annular volume, mL (R92). -/
def annularVolume (x : Snapshot) : Nat := (x.map.map (annularOf (spans x.depth x.members))).sum / 1000

/-- The hole volume, mL (R93). -/
def holeVolume (map : List (Nat × Nat × Nat)) : Nat := (map.map fun i => area i.2.2 * (i.2.1 - i.1)).sum / 1000

/-- The steel volume in hole, mL (R94). -/
def steelVolume (depth : Nat) (ms : List Member) : Nat :=
  ((spans depth ms).map fun m => (area m.od - area m.id) * (m.hi - m.lo)).sum / 1000

/-- The hole volume added since a reference depth, mL (R95). -/
def holeAdded (hRef hole : Nat) (map : List (Nat × Nat × Nat)) : Nat :=
  (map.map fun i => area i.2.2 * overlap i.1 i.2.1 hRef hole).sum / 1000

/-- A record as a member of the string. -/
def RodRecord.member (r : RodRecord) : Member := ⟨r.tag, r.length, r.od, r.id⟩

/-- The members of the string from the bottom. -/
def RodUnit.placed (u : RodUnit) : List Member := u.memberRecords.map RodRecord.member

/-- The boundaries and diameters of a map (R99). -/
def outline (m : List Interval) : List (Nat × Nat × Nat) := m.map fun i => (i.top, i.bottom, i.diameter)

/-- The outline of the ACTIVE job's map. -/
def State.activeOutline (s : State) : List (Nat × Nat × Nat) :=
  match s.activeJob with
  | some (_, j) => outline j.map
  | none => []

/-- The steel volume in hole as the records stand (R94). -/
def State.steelNow (s : State) : Nat := steelVolume s.rod.repDepth s.rod.placed

/-- The hole volume added since the balance reference (R95). -/
def State.addedNow (s : State) : Nat := holeAdded s.circ.ref.hRef s.holeDepth s.activeOutline

/-! ## The survey engine -/

/-- The inputs of a survey as the records stand (R99). -/
def State.surveyInputs (s : State) : Snapshot :=
  ⟨s.activeSlot, s.rod.placed, s.rod.repDepth, s.activeOutline, s.holeDepth⟩

/-- The survey engine replaced. -/
def State.setSurvey (s : State) (x : Option Survey) : State := s.setCirc { s.circ with survey := x }

/-- A READ CIRCULATION asks for a survey: it starts one, or joins the one that runs (R99). -/
def askReadSurvey (s : State) : State :=
  match s.circ.survey with
  | some v => s.setSurvey (some { v with readWaits := true })
  | none => s.setSurvey (some ⟨s.surveyInputs, true, false, 0, 0⟩)

/-- A sweep start asks for a survey (R99, R130). -/
def askSweepSurvey (s : State) : State :=
  match s.circ.survey with
  | some v => s.setSurvey (some { v with sweepWaits := true })
  | none => s.setSurvey (some ⟨s.surveyInputs, false, true, 0, 0⟩)

/-- A running survey whose inputs an event has changed restarts from the records as the event leaves them; an
event that leaves the inputs as they were causes no restart (R100). -/
def surveyRefresh (s : State) : State :=
  match s.circ.survey with
  | none => s
  | some v =>
    if v.snapshot = s.surveyInputs then s
    else s.setSurvey (some { v with snapshot := s.surveyInputs, restarts := satAdd 65535 v.restarts 1, elapsedMs := 0 })

/-- The SWEEP waiter withdrawn; an empty waiter set discontinues the survey (R103). -/
def withdrawSweepWaiter (s : State) : State :=
  match s.circ.survey with
  | none => s
  | some v => if v.readWaits then s.setSurvey (some { v with sweepWaits := false }) else s.setSurvey none

/-! ## Effective stroke volume (R96) -/

/-- E_P in centi-mL. -/
def ConfigStore.strokeVolume (c : ConfigStore) : Pump → Nat
  | .a => c.dispA * c.effA
  | .b => c.dispB * c.effB

/-- What the circulation unit counts for a pump. -/
def CircUnit.pump (c : CircUnit) : Pump → PumpCount
  | .a => c.pumpA
  | .b => c.pumpB

/-- A pump's counts replaced. -/
def CircUnit.setPump (c : CircUnit) (p : Pump) (x : PumpCount) : CircUnit :=
  match p with
  | .a => { c with pumpA := x }
  | .b => { c with pumpB := x }

end Sys2Proof.Machine
end

