-- ==== Sys2Proof/Machine/Activity.lean ====
section
/-! DEFINITION. Starting and ending a sweep short of its completion, the sweep counter (R127 to R136), and the
derivation of the rig's activity (R150 to R153), whose every change may start a sweep. -/
namespace Sys2Proof.Machine

/-! ## Sweeps: start and end -/

/-- The start conditions of a sweep (R130). -/
def State.sweepMayStart (s : State) : Bool :=
  s.sweep.owed && s.sweep.current.isNone && s.anyPumping && !s.handler.pastWaiting && s.job.activity != .drilling

/-- An evaluation event of R130, with the volume in centi-mL of the strokes counted at it, if it is a group of
strokes: the sweep starts where its conditions hold. -/
def sweepStart (strokes : Nat) (s : State) : State :=
  if s.sweepMayStart then
    askSweepSurvey (s.setSweep { s.sweep with current := some ⟨min strokes max48, none, none⟩ })
  else s

/-- The last sweep record for an outcome (R136). -/
def State.sweepRecord (s : State) (o : SweepOutcome) : SweepRecord :=
  { outcome := o, slot := s.activeSlot, target := s.sweep.current.bind (·.target),
    progress := s.sweep.current.map (·.progress / 100), overdue := s.sweep.overdue }

/-- A sweep in progress ends while the sweep stays owed (R134, R135): record, and the SWEEP waiter withdrawn. -/
def endSweepOwed (o : SweepOutcome) (s : State) : State :=
  match s.sweep.current with
  | none => s
  | some _ => withdrawSweepWaiter (s.setSweep { s.sweep with current := none, last := some (s.sweepRecord o) })

/-- The owed flag and the overdue mark clear, and a sweep in progress ends with them (R133, R138, R139). -/
def dischargeSweep (o : SweepOutcome) (s : State) : State :=
  withdrawSweepWaiter
    (s.setSweep { s.sweep with owed := false, overdue := false, current := none, last := some (s.sweepRecord o) })

/-- The spacings crossed by the counter are taken off it; the first sets the owed flag, if it was clear, and every
other the overdue mark (R128). -/
def takeSpacings (s : State) : State :=
  let k := s.sweep.counter / s.config.sweepSpacing
  s.setSweep { s.sweep with
    counter := s.sweep.counter - k * s.config.sweepSpacing
    owed := s.sweep.owed || decide (1 ≤ k)
    overdue := s.sweep.overdue || decide ((if s.sweep.owed then 1 else 2) ≤ k) }

/-- The spacings crossed at a write of a new spacing (R128), where the owed flag being set is an evaluation event
(R130). -/
def crossSpacings (s : State) : State :=
  let t := takeSpacings s
  if t.sweep.owed = s.sweep.owed then t else sweepStart 0 t

/-- Drilled length added to the sweep counter (R128). R130 lists the owed flag being set as an evaluation event, and
says that a drilling extension is none: an extension that sets the flag starts no sweep (DEDUCED, log 37). -/
def advanceCounter (drilled : Nat) (s : State) : State :=
  takeSpacings (s.setSweep { s.sweep with counter := s.sweep.counter + drilled })

/-- A drilling extension at the sweep state: it ends a sweep in progress (R135) and advances the counter (R128), and
starts none (R130). The manual gives no order for the two, which only the overdue mark of the record can tell apart
(log 20). -/
def sweepExtension (drilled : Nat) (s : State) : State :=
  anyOrder [endSweepOwed .endedDrilling, advanceCounter drilled] s

/-! ## Activity -/

/-- The DOWN condition (R150). -/
def State.downCondition (s : State) : Bool := s.handler.anyFault || !s.pins.allstopN

/-- The bit is on bottom (R150). -/
def State.onBottom (s : State) : Bool :=
  match s.activeJob with
  | some (_, j) => j.holeDepth - s.config.onBottomTol ≤ s.rod.rawDepth
  | none => false

/-- Whether an activity is a member of the idle family (R153). -/
def Activity.idleFamily : Activity → Bool
  | .idle => true
  | .standby => true
  | .shutdown => true
  | .down => false
  | .drilling => false
  | .reaming => false
  | .tripping => false
  | .circulating => false

/-- The activity the table of R150 gives; the idle family keeps its member, or is entered at IDLE (R153). -/
def State.tableActivity (s : State) : Activity :=
  if s.downCondition then .down
  else if s.rotating == .yes && s.anyPumping && s.onBottom then .drilling
  else if s.rotating == .yes && !s.onBottom then .reaming
  else if s.handler.pastWaiting then .tripping
  else if s.anyPumping then .circulating
  else if s.job.activity.idleFamily then s.job.activity
  else .idle

/-- The activity a re-derivation gives, with the hold of R152. A COMPLETE JOB during a hold leaves a held DRILLING as it
is, though R147 says that the rig cannot be DRILLING until the next job opens (DESIGN CHOICE, log 46). -/
def State.derivedActivity (s : State) : Activity :=
  if s.holdMark then (if s.downCondition then .down else s.job.activity) else s.tableActivity

/-- The activity replaced: a change stops and discards the timers of the idle family (R153) and is an evaluation
event of a sweep start (R151, R130). -/
def setActivity (a : Activity) (s : State) : State :=
  if a = s.job.activity then s
  else sweepStart 0 (s.setJob { s.job with activity := a, idleMs := 0, standbyMs := 0 })

/-- The activity re-derived (R151). -/
def deriveActivity (s : State) : State := setActivity s.derivedActivity s

end Sys2Proof.Machine
end

