-- ==== Sys2Proof/Machine/MapOps.lean ====
section
/-! DEFINITION. The operations over a map of intervals (R27, R36, R41 to R43) and drilling extension (R31 to R34). -/
namespace Sys2Proof.Machine

/-! ## Choosing an interval (R27) -/

/-- The length of an interval (R28). -/
def Interval.length (i : Interval) : Nat := i.bottom - i.top

/-- The interval at a depth with its ordinal, counting from `n`: the first whose bottom is below the depth, or the
deepest (R27). -/
def intervalFrom (n d : Nat) : List Interval → Option (Nat × Interval)
  | [] => none
  | [i] => some (n, i)
  | i :: j :: rest => if d < i.bottom then some (n, i) else intervalFrom (n + 1) d (j :: rest)

/-- The interval at a depth with its ordinal from 1 (R27). -/
def intervalAt (d : Nat) (m : List Interval) : Option (Nat × Interval) := intervalFrom 1 d m

/-- The interval at a depth changed by `f` (R27). -/
def modifyAt (f : Interval → Interval) (d : Nat) : List Interval → List Interval
  | [] => []
  | [i] => [f i]
  | i :: j :: rest => if d < i.bottom then f i :: j :: rest else i :: modifyAt f d (j :: rest)

/-- The deepest interval changed by `f`. -/
def modifyDeepest (f : Interval → Interval) : List Interval → List Interval
  | [] => []
  | [i] => [f i]
  | i :: j :: rest => i :: modifyDeepest f (j :: rest)

/-- A new interval of zero length at a depth: zero totals, a clear mark and no strike (R30, R32, R38). -/
def newInterval (at_ formation hardness diameter : Nat) : Interval :=
  ⟨at_, at_, formation, hardness, diameter, 0, 0, 0, false, none⟩

/-! ## Editing a map (R41 to R43) -/

/-- Whether a depth lies strictly inside an interval of a map (R41, R43). -/
def strictlyInside (d : Nat) (m : List Interval) : Bool := m.any fun i => i.top < d && d < i.bottom

/-- The upper part's share of a total (R41). -/
def share (v upper length : Nat) : Nat := v * upper / length

/-- The upper part of an interval split at a depth (R41). -/
def Interval.upper (i : Interval) (d : Nat) : Interval :=
  { i with
    bottom := d
    drillSec := share i.drillSec (d - i.top) i.length
    lostMud := share i.lostMud (d - i.top) i.length
    inflow := share i.inflow (d - i.top) i.length
    strike := i.strike.filter fun k => k.depth < d }

/-- The lower part of an interval split at a depth: the remainders (R41). -/
def Interval.lower (i : Interval) (d : Nat) : Interval :=
  { i with
    top := d
    drillSec := i.drillSec - share i.drillSec (d - i.top) i.length
    lostMud := i.lostMud - share i.lostMud (d - i.top) i.length
    inflow := i.inflow - share i.inflow (d - i.top) i.length
    strike := i.strike.filter fun k => d ≤ k.depth }

/-- The map split at a depth that lies strictly inside an interval; any other depth leaves it as it stands. -/
def splitMap (d : Nat) : List Interval → List Interval
  | [] => []
  | i :: rest => if i.top < d ∧ d < i.bottom then i.upper d :: i.lower d :: rest else i :: splitMap d rest

/-- The two intervals that meet at a boundary depth, the upper one first (R42). -/
def meetingAt (d : Nat) : List Interval → Option (Interval × Interval)
  | [] => none
  | [_] => none
  | i :: j :: rest => if j.top = d then some (i, j) else meetingAt d (j :: rest)

/-- Two adjacent intervals as one (R42). -/
def Interval.merge (i j : Interval) : Interval :=
  { i with
    bottom := j.bottom
    drillSec := satAdd max32 i.drillSec j.drillSec
    lostMud := satAdd max32 i.lostMud j.lostMud
    inflow := satAdd max32 i.inflow j.inflow
    mismatch := i.mismatch || j.mismatch
    strike := i.strike.or j.strike }

/-- The map with the two intervals that meet at a depth merged (R42). -/
def mergeMap (d : Nat) : List Interval → List Interval
  | [] => []
  | [i] => [i]
  | i :: j :: rest => if j.top = d then i.merge j :: rest else i :: mergeMap d (j :: rest)

/-- The diameter recorded for every interval of non-zero length wholly within a range (R43). -/
def recordDiameter (lo hi diameter : Nat) (m : List Interval) : List Interval :=
  m.map fun i =>
    if lo ≤ i.top ∧ i.bottom ≤ hi ∧ i.top < i.bottom then { i with diameter := diameter, mismatch := false } else i

/-- A map replaced in its job. -/
def Job.withMap (j : Job) (m : List Interval) : Job := { j with map := m }

/-- What an edit of a map hands on: POOL's mark (R26) and the map change (R35). -/
def mapEdited (s : State) : State := surveyRefresh (poolRefresh s)

/-! ## Bookings (R36) -/

/-- A booked volume added to the interval at a depth of the ACTIVE job's map (R36). -/
def bookInterval (loss : Bool) (volume depth : Nat) (s : State) : State :=
  s.modifyActive fun j => j.withMap <| modifyAt (fun i =>
    if loss then { i with lostMud := satAdd max32 i.lostMud volume }
    else { i with inflow := satAdd max32 i.inflow volume }) depth j.map

/-! ## Drilling extension (R31 to R33) -/

/-- The job's map extended from its hole depth to `to_`, with the mark of a pool run dry: steps 1 to 3 of R32, and
R33 where step 1 finds no free record. -/
def extendJob (free : Nat) (to_ : Nat) (j : Job) : Job × Bool :=
  match j.map.getLast? with
  | none => (j, false)
  | some d =>
    if j.bit ≠ d.diameter ∧ d.length ≠ 0 then
      if free = 0 then
        ({ j with map := modifyDeepest (fun i => { i with mismatch := true, bottom := to_ }) j.map, holeDepth := to_ }, true)
      else
        ({ j with map := j.map ++ [{ newInterval j.holeDepth d.formation d.hardness j.bit with bottom := to_ }], holeDepth := to_ }, false)
    else if d.length = 0 then
      ({ j with map := modifyDeepest (fun i => { i with diameter := j.bit, bottom := to_ }) j.map, holeDepth := to_ }, false)
    else
      ({ j with map := modifyDeepest (fun i => { i with bottom := to_ }) j.map, holeDepth := to_ }, false)

/-- The hardness class of the deepest interval (R9, R32); 0 for a map with no interval, which no job has (R27). -/
def Job.deepestHardness (j : Job) : Nat :=
  match j.map.getLast? with
  | some i => i.hardness
  | none => 0

/-- DEPTH_DISAGREE replaced (R34). -/
def setDisagree (b : Bool) (s : State) : State := s.setBore { s.bore with depthDisagree := b }

/-- The bore map unit's evaluation of a raw bit depth handed over (R31): the state it leaves, the drilled length and
the hardness class handed back. -/
def boreEvaluate (raw : Nat) (s : State) : State × Nat × Nat :=
  match s.activeJob with
  | none => (setDisagree false s, 0, 0)
  | some (n, j) =>
    if raw ≤ j.holeDepth then (setDisagree false s, 0, 0)
    else if s.rotating == .yes && s.anyPumping then
      if maxDepth ≤ j.holeDepth then (setDisagree true s, 0, 0)
      else
        let to_ := min raw maxDepth
        let x := extendJob s.poolFree to_ j
        let t := (s.putJob n (some x.1)).setBore
          { poolExhausted := s.bore.poolExhausted || x.2, depthDisagree := decide (maxDepth < raw) }
        (t, to_ - j.holeDepth, x.1.deepestHardness)
    else (setDisagree true s, 0, 0)

end Sys2Proof.Machine
end

