-- ==== Sys2Proof/Machine/StringOps.lean ====
section
/-! DEFINITION. Wear (R9, R10), the recomputation of the bit depths (R5, R6), and what a change of the string's
membership hands on (R4). -/
namespace Sys2Proof.Machine

/-! ## Wear -/

/-- A gain of wear, which saturates (R1, R9). -/
def RodRecord.gain (milli : Nat) (r : RodRecord) : RodRecord := { r with wearMilli := satAdd maxWear r.wearMilli milli }

/-- Whether a gain takes a record from IN_SERVICE to WORN (R10). -/
def RodRecord.wearsOut (milli : Nat) (r : RodRecord) : Bool :=
  r.status == .inService && (r.gain milli).status == .worn

/-- The members named gain wear; where any wears out ROD_WORN is raised, and the last-worn tag is the lowest of
them, the tags being given from the bottom (R9, R10). -/
def RodUnit.wear (tags : List Nat) (milli : Nat) (u : RodUnit) : RodUnit :=
  let worn := tags.filter fun t => ((u.find t).map (RodRecord.wearsOut milli)).getD false
  { u with
    rods := u.rods.map fun r => if tags.contains r.tag then r.gain milli else r
    rodWorn := u.rodWorn || !worn.isEmpty
    lastWorn := worn.head?.or u.lastWorn }

/-- Wear of the members named. -/
def wearRods (tags : List Nat) (milli : Nat) (s : State) : State := s.setRod (s.rod.wear tags milli)

/-- Make-up wear at a completed joint: the rod just joined and the member directly below it (R9). The manual does
not say which of the two is the last-worn tag where both wear out (log 21), nor how this wear stands to that of a
drilling at the same event (log 48). -/
def makeUpWear (s : State) : State :=
  match s.rod.members.reverse with
  | top :: below :: _ =>
    let milli := s.config.makeUpWear * 1000
    anyOrder [wearRods [top] milli, wearRods [below] milli] s
  | _ => s

/-! ## Bit depths (R5, R6) -/

/-- Both bit depths replaced. -/
def setDepths (raw rep : Nat) (s : State) : State := s.setRod { s.rod with rawDepth := raw, repDepth := rep }

/-- The raw bit depth of R5: the string length less the stick-up, not below 0, and 0 with an empty string. -/
def State.rawFromString (s : State) : Nat := s.rod.stringLength - s.hub.stickUp.value

/-- The recomputation of R5 in full: the raw bit depth is handed to the bore map unit, the drilled length is
applied as wear, and the reported bit depth is set. The drilled length goes on to the sweep state by
`sweepTakesExtension` (R32). -/
def recomputeDepth (s : State) : State :=
  let raw := s.rawFromString
  let x := boreEvaluate raw s
  let t := if x.2.1 = 0 then x.1 else wearRods x.1.rod.members (x.2.1 * x.2.2) x.1
  let rep := if t.activeJob.isSome then min raw t.holeDepth else 0
  surveyRefresh (setDepths raw rep t)

/-- What a change of membership does to the bit depths: R5 with a fresh stick-up; with a stale one nothing, but for a
change that empties the string (R6). -/
def depthAtStringChange (s : State) : State :=
  if s.hub.stickUp.stale then
    if s.rod.members.isEmpty then surveyRefresh (setDepths 0 0 (boreEvaluate 0 s).1) else surveyRefresh s
  else recomputeDepth s

/-- The drilled length of an event at the sweep state (R32, R128, R135): what the hole has gained since it stood at
`before`. -/
def sweepTakesExtension (before : Nat) (s : State) : State :=
  if before < s.holeDepth then sweepExtension (s.holeDepth - before) s else s

/-- The parts of an event at which the bit depth may be recomputed, in any order, and the drilled length at the sweep
state after them all, so that a sweep which the extension ends does not start again at the same event (R130, log 20). -/
def withExtension (parts : List (State → State)) (s : State) : State :=
  sweepTakesExtension s.holeDepth (anyOrder parts s)

/-- A change of the string's membership handed on (R4): bit depths and survey, and the activity (R151), in either
order. The carrier and the permits are the interlock's own. The wear of a drilled length found here is that of any
drilling advance, whatever act changed the string (log 44, log 47). -/
def stringChanged (s : State) : State := withExtension [depthAtStringChange, deriveActivity] s

end Sys2Proof.Machine
end

