-- ==== Sys2Proof/Machine/Balance.lean ====
section
/-! DEFINITION. The pit balance (R108 to R119): measured and expected volumes, rebase, booking, evaluation. -/
namespace Sys2Proof.Machine

/-- The measured pit volume, mL (R108). -/
def State.measured (s : State) : Nat := s.hub.pitLevel.value * s.config.pitArea * 10

/-- The expected pit volume, mL (R110). -/
def State.expected (s : State) : Int :=
  (s.circ.ref.pRef : Int) - s.addedNow + s.steelNow - s.circ.ref.sRef

/-- The balance B, mL (R110). -/
def State.balance (s : State) : Int := (s.measured : Int) - s.expected

/-- The rebase: the present pit, hole depth and steel become the reference, and LOSS and GAIN clear (R109). -/
def rebase (s : State) : State :=
  s.setCirc { s.circ with ref := ⟨true, s.measured, s.holeDepth, s.steelNow⟩, loss := false, gain := false }

/-- The last balance record replaced (R118). -/
def recordBalance (x : BalanceRecord) (s : State) : State := s.setCirc { s.circ with lastBalance := some x }

/-- The outcome of a booking with the reference VALID and the pit level fresh (R117 step 3). -/
def State.bookingOutcome (s : State) : BalanceOutcome :=
  if s.balance.natAbs < s.config.balanceHyst * 1000 then .belowHysteresis
  else if s.activeJob.isNone then .discardedNoJob
  else if s.balance < 0 then .bookedLoss
  else .bookedInflow

/-- The effect of a booking outcome on the map (R117, R36). -/
def bookOutcome (o : BalanceOutcome) (s : State) : State :=
  match o with
  | .bookedLoss => bookInterval true s.balance.natAbs s.rod.repDepth s
  | .bookedInflow => bookInterval false s.balance.natAbs s.rod.repDepth s
  | .belowHysteresis => s
  | .discardedNoJob => s
  | .skippedStale => s
  | .rebasedOnly => s

/-- A booking (R117), with its record (R118). -/
def book (cause : BalanceCause) (entry : Option Nat) (s : State) : State :=
  if s.hub.pitLevel.stale then recordBalance ⟨cause, .skippedStale, none, none, s.activeSlot, entry⟩ s
  else if !s.circ.ref.valid then rebase (recordBalance ⟨cause, .rebasedOnly, none, none, s.activeSlot, entry⟩ s)
  else
    let o := s.bookingOutcome
    let depth := if o = .bookedLoss ∨ o = .bookedInflow then some s.rod.repDepth else none
    rebase (recordBalance ⟨cause, o, some s.balance, depth, s.activeSlot, entry⟩ (bookOutcome o s))

/-- The effective hysteresis of a cause, L (R113). -/
def effectiveHyst (hyst threshold : Nat) : Nat := if hyst < threshold then hyst else threshold - 10

/-- LOSS and GAIN by the thresholds of R113. -/
def applyThresholds (s : State) : State :=
  let b := s.balance
  let lossSet : Int := s.config.lossThreshold * 1000
  let lossClear : Int := (s.config.lossThreshold - effectiveHyst s.config.balanceHyst s.config.lossThreshold : Nat) * 1000
  let gainSet : Int := s.config.gainThreshold * 1000
  let gainClear : Int := (s.config.gainThreshold - effectiveHyst s.config.balanceHyst s.config.gainThreshold : Nat) * 1000
  s.setCirc { s.circ with
    loss := if b ≤ -lossSet then true else if b ≥ -lossClear then false else s.circ.loss
    gain := if b ≥ gainSet then true else if b ≤ gainClear then false else s.circ.gain }

/-- PIT_LOW evaluated from the stored pit level (R115). -/
def evaluatePitLow (s : State) : State :=
  s.setCirc { s.circ with
    pitLow :=
      if s.hub.pitLevel.value ≤ s.config.lowPit then true
      else if s.config.lowPit + s.config.pitHyst ≤ s.hub.pitLevel.value then false
      else s.circ.pitLow }

/-- What the circulation unit does at a pit level value taken (R112, R116). -/
def pitValueTaken (s : State) : State :=
  let t := evaluatePitLow (s.setCirc { s.circ with pitTaken := true })
  if !t.circ.ref.valid then rebase (recordBalance ⟨.firstValue, .rebasedOnly, none, none, t.activeSlot, none⟩ t)
  else if t.settled then applyThresholds t
  else t

end Sys2Proof.Machine
end

