-- ==== Sys2Proof/Machine/Interlock.lean ====
section
/-! DEFINITION. The hold interlock: the permits and the blanking they restart (R68 to R73), the end of an operation
(R67, R82), the stages (R75 to R78), leaving WAITING (R74) and the head test (R63). -/
namespace Sys2Proof.Machine

/-! ## Permits -/

/-- The closed run of a holder (R68). -/
def HandlerUnit.run (h : HandlerUnit) : Holder → Option Nat
  | .slips => h.slipsRun
  | .elevator => h.elevRun

/-- A holder's closed run replaced. -/
def HandlerUnit.setRun (h : HandlerUnit) (x : Holder) (r : Option Nat) : HandlerUnit :=
  match x with
  | .slips => { h with slipsRun := r }
  | .elevator => { h with elevRun := r }

/-- Whether a holder's closed run has reached the transfer time (R70). -/
def State.runReached (s : State) (x : Holder) : Bool :=
  match s.handler.run x with
  | some ms => s.config.transferTime ≤ ms
  | none => false

/-- All four permits stay withdrawn: ALLSTOP_N low, HOLD_FAULT latched, or the determination running (R70, R87). -/
def State.permitsBarred (s : State) : Bool :=
  !s.pins.allstopN || s.handler.holdFault || s.handler.determinationMs.isSome

/-- SLIPS_REL by the cases of R70. -/
def State.slipsRelDue (s : State) : Bool :=
  if s.permitsBarred then false
  else if s.rod.members.isEmpty then true
  else if s.handler.transfer.isSome then false
  else s.handler.carrier == some .elevator && s.runReached .elevator

/-- ELEV_REL by the cases of R70. -/
def State.elevRelDue (s : State) : Bool :=
  if s.permitsBarred then false
  else if s.rod.members.isEmpty then true
  else if s.handler.transfer.isSome then false
  else s.handler.carrier == some .slips && s.runReached .slips

/-- WRENCH_PERMIT: while the head is in JOINING or UNJOINING and the carrier is SLIPS (R73), unless the permits are
barred (log 10). -/
def State.wrenchDue (s : State) : Bool :=
  !s.permitsBarred && s.handler.carrier == some .slips &&
    (s.handler.headStage == some .joining || s.handler.headStage == some .unjoining)

/-- The conditions of ROT_PERMIT but for the blanking of its second (R72). -/
def State.rotHolds (s : State) : Bool :=
  !s.permitsBarred && (s.handler.carrier == some .elevator || s.rod.members.isEmpty) && !s.pins.slipsClosed &&
    !s.handler.pastWaiting && !s.handler.anyFault

/-- The release permits and WRENCH_PERMIT brought to their rules; a change restarts blanking (R68, R70, R73). -/
def refreshReleases (s : State) : State :=
  let changed := s.handler.slipsRel != s.slipsRelDue || s.handler.elevRel != s.elevRelDue ||
    s.handler.wrenchPermit != s.wrenchDue
  s.setHandler { s.handler with
    slipsRel := s.slipsRelDue, elevRel := s.elevRelDue, wrenchPermit := s.wrenchDue
    blankingMs := if changed then some 0 else s.handler.blankingMs }

/-- ROT_PERMIT brought to its rule: to be asserted it needs the slips confirmed open, to stay it does not need the
blanking to have ended (R72). A change restarts blanking (R68). -/
def refreshRot (s : State) : State :=
  let rot := s.rotHolds && (s.handler.rotPermit || s.handler.blankingMs.isNone)
  s.setHandler { s.handler with
    rotPermit := rot
    blankingMs := if s.handler.rotPermit != rot then some 0 else s.handler.blankingMs }

/-- The four permits brought to their rules, ROT_PERMIT after the others (log 9). -/
def refreshPermits (s : State) : State := refreshRot (refreshReleases s)

/-! ## The end of an operation -/

/-- The kind of an operation (R62). -/
def Operation.kind : Operation → OpKind
  | .addRod _ => .addRod
  | .pullRod _ => .pullRod
  | .transferHold _ => .transferHold

/-- The rod tag of an operation's last outcome: ADD ROD's rod, the member a PULL ROD removed, else absent (R67). -/
def HandlerUnit.outcomeTag (h : HandlerUnit) : Operation → Option Nat
  | .addRod tag => some tag
  | .pullRod _ => h.headNote.bind (·.tag)
  | .transferHold _ => none

/-- The end of the head's operation (R67), with the effects of an abort (R82) where a reason is given; the next
entry is not yet made head. The end of an operation past WAITING is an evaluation event of R130. -/
def endHead (reason : Option AbortReason) (s : State) : State :=
  match s.handler.queue with
  | [] => s
  | e :: others =>
    let unit := if reason.isSome && e.stage.working then s.rod.strand else s.rod
    let t := (s.setRod (unit.release e.num)).setHandler { s.handler with
      queue := others, stageMs := 0, transfer := none, headNote := none
      lastOutcome := some ⟨e.num, e.op.kind, reason, s.handler.outcomeTag e.op⟩
      handlerDone := true }
    let t := deriveActivity (refreshPermits t)
    if e.stage.working then sweepStart 0 t else t

/-! ## Stages -/

/-- The target of the transfer that a stage begins, absent for a stage without one (R75 to R78). -/
def stageTarget (op : Operation) (stage : Stage) (rest : List Stage) : Option Holder :=
  match stage with
  | .setting =>
    match op with
    | .addRod _ => some .slips
    | .pullRod _ => if rest.head? = some .liftingOut then some .elevator else some .slips
    | .transferHold h => some h
  | .lifting => some .elevator
  | .queued => none
  | .waiting => none
  | .joining => none
  | .placing => none
  | .unjoining => none
  | .liftingOut => none
  | .racking => none

/-- The head's stage replaced, with the stages after it; its timer starts (R79). -/
def setStage (stage : Stage) (rest : List Stage) (s : State) : State :=
  match s.handler.queue with
  | [] => s
  | e :: others => s.setHandler { s.handler with queue := { e with stage := stage, rest := rest } :: others, stageMs := 0 }

/-- The rod that an ADD ROD takes from its slot at the first event of JOINING or PLACING (R8, R75, R76). -/
def takeFromRack (op : Operation) (stage : Stage) (s : State) : State :=
  match op with
  | .addRod tag => if stage = .joining ∨ stage = .placing then s.setRod (s.rod.move tag .inTransfer) else s
  | .pullRod _ => s
  | .transferHold _ => s

/-- A transfer begun toward a target that is not the carrier (R71). -/
def beginTransfer (target : Holder) (s : State) : State :=
  refreshPermits (s.setHandler { s.handler with
    transfer := some ⟨target, if s.pins.closed target then some 0 else none⟩ })

/-- The first event of a stage, its transfer apart: the rod moved, the permits and the activity (R73, R75 to R78). -/
def enterStage (op : Operation) (stage : Stage) (rest : List Stage) (s : State) : State :=
  deriveActivity (refreshPermits (takeFromRack op stage (setStage stage rest s)))

/-- The head runs on through its stages: a stage whose transfer finds its target already the carrier ends at once
(R71), and the end of the last stage ends the operation DONE (R67). -/
def runStages (op : Operation) : List Stage → State → State
  | [], s => endHead none s
  | stage :: rest, s =>
    let t := enterStage op stage rest s
    match stageTarget op stage rest with
    | none => t
    | some h => if t.handler.carrier = some h then runStages op rest t else beginTransfer h t

/-- The present stage of the head has ended: the next one begins. -/
def nextStage (s : State) : State :=
  match s.handler.queue with
  | [] => s
  | e :: _ => runStages e.op e.rest s

/-! ## Head test and leaving WAITING -/

/-- The head test of an operation (R63). -/
def State.headTest (s : State) : Operation → Bool
  | .addRod tag =>
    s.activeJob.isSome && decide (s.rod.members.length < 200) &&
      ((s.rod.find tag).map fun r => r.racked && r.status == .inService).getD false
  | .pullRod slot => !s.rod.members.isEmpty && (s.rod.occupant slot).isNone
  | .transferHold _ => !s.rod.members.isEmpty

/-- The WAITING conditions (R74). -/
def State.mayLeaveWaiting (s : State) : Bool :=
  !s.sweep.owed && s.hub.pumpA.state == .stopped && s.hub.pumpB.state == .stopped && s.settled &&
    s.rotating == .no && !s.handler.anyFault && s.pins.allstopN

/-- The path chosen from the string as it stands (R74 to R78). -/
def State.path (s : State) : Operation → List Stage
  | .addRod _ => if s.rod.members.isEmpty then [.placing, .lifting] else [.setting, .joining, .lifting]
  | .pullRod _ => if s.rod.members.length = 1 then [.setting, .liftingOut, .racking] else [.setting, .unjoining, .racking]
  | .transferHold _ => [.setting]

/-- The head note written when an entry leaves WAITING (R69). -/
def noteOf (e : Entry) : HeadNote :=
  ⟨e.num, e.op.kind, match e.op with
    | .addRod tag => some tag
    | .pullRod _ => none
    | .transferHold _ => none⟩

/-- The head leaves WAITING, its conditions holding (R74): retest, path, head note, ROT_PERMIT withdrawn, the booking
of R119, and the first working stage. -/
def leaveWaiting (e : Entry) (s : State) : State :=
  if !s.headTest e.op then endHead (some .invalid) s
  else
    match s.path e.op with
    | [] => s
    | stage :: rest =>
      let t := setStage stage rest (s.setHandler { s.handler with headNote := some (noteOf e) })
      runStages e.op (stage :: rest) (book .operation (some e.num) (refreshRot t))

/-- A QUEUED head is tested as it becomes head: it enters WAITING or ends INVALID (R63). -/
def testHead (s : State) : State :=
  match s.handler.queue with
  | [] => s
  | e :: _ =>
    if e.stage = .queued then
      if s.headTest e.op then deriveActivity (setStage .waiting [] s) else endHead (some .invalid) s
    else s

/-- The queue runs on until its head waits or works, or the queue is empty: each turn tests a new head and lets a
head that may leave WAITING leave it. Every turn but the last ends an entry, so the bound is the queue's length. -/
def runQueueFor : Nat → State → State
  | 0, s => s
  | bound + 1, s =>
    let t := testHead s
    match t.handler.queue with
    | [] => t
    | e :: others =>
      if e.stage = .queued then runQueueFor bound t
      else if e.stage = .waiting && t.mayLeaveWaiting then
        let u := leaveWaiting e t
        if u.handler.queue.length = others.length then runQueueFor bound u else u
      else t

/-- The next head and the WAITING conditions evaluated (R63, R67, R74). -/
def runQueue (s : State) : State := runQueueFor (s.handler.queue.length + 1) s

/-! ## Transfers, faults and aborts -/

/-- A transfer completes: its target becomes the carrier, and the stage that held it ends (R71, R75 to R78). -/
def completeTransfer (target : Holder) (s : State) : State :=
  runQueue (nextStage (refreshPermits (s.setHandler { s.handler with carrier := some target, transfer := none })))

/-- The operation of a head past WAITING ends ABORTED for a reason (R82), and the next entry becomes head (R67). -/
def abortWorking (reason : AbortReason) (s : State) : State :=
  if s.handler.pastWaiting then runQueue (endHead (some reason) s) else s

/-- HOLD_FAULT latches (R80). -/
def latchHoldFault (s : State) : State :=
  abortWorking .holdFault (deriveActivity (refreshPermits (s.setHandler { s.handler with holdFault := true })))

/-- The time limit of a stage in ms (R75 to R79). -/
def ConfigStore.stageLimit (c : ConfigStore) : Stage → Nat
  | .setting => c.transferLimit * 1000
  | .lifting => c.transferLimit * 1000
  | .liftingOut => c.transferLimit * 1000
  | .joining => c.wrenchLimit * 1000
  | .unjoining => c.wrenchLimit * 1000
  | .placing => c.rackLimit * 1000
  | .racking => c.rackLimit * 1000
  | .queued => 0
  | .waiting => 0

/-- The fault latches cleared as CLEAR FAULTS does (R80, R81, R189): HANDLER_FAULT clears, and HOLD_FAULT clears with
the carrier's input high or the carrier NONE; permits, activity and WAITING conditions follow at once. -/
def clearFaultLatches (s : State) : State :=
  if s.handler.anyFault then
    let lets := match s.handler.carrier with
      | some h => s.pins.closed h
      | none => true
    runQueue (deriveActivity (refreshPermits (s.setHandler { s.handler with
      handlerFault := false, holdFault := s.handler.holdFault && !lets })))
  else s

end Sys2Proof.Machine
end

