-- ==== Sys2Proof/Machine/Sweeps.lean ====
section
/-! DEFINITION. Strokes counted (R98), the completion of a sweep (R132, R133), its hold (R134), and what a change of
a pumping state does at the circulation unit (R111, R130, R134). -/
namespace Sys2Proof.Machine

/-- A sweep completes (R133): the owed flag clears, and the handler's WAITING conditions are evaluated. -/
def completeSweep (s : State) : State := runQueue (dischargeSweep .completed s)

/-- The completion test: progress in centi-mL against 100 times the target (R133). -/
def completionTest (s : State) : State :=
  match s.sweep.current with
  | none => s
  | some r =>
    match r.target with
    | none => s
    | some target => if 100 * target ≤ r.progress then completeSweep s else s

/-- The survey's annular volume reaches the SWEEP waiter: the target is set and frozen (R132). -/
def setTarget (annular : Nat) (s : State) : State :=
  match s.sweep.current with
  | none => s
  | some r =>
    completionTest (s.setSweep { s.sweep with
      current := some { r with target := some (annular * s.config.sweepFactor / 100) } })

/-- A group of strokes added to the sweep in progress, whose hold it ends (R132, R134), or an evaluation event of a
sweep start (R130). -/
def sweepStrokes (volume : Nat) (s : State) : State :=
  match s.sweep.current with
  | none => sweepStart volume s
  | some r =>
    completionTest (s.setSweep { s.sweep with
      current := some { r with progress := satAdd max48 r.progress volume, holdMs := none } })

/-- A group of strokes counted for a pump (R98). A count of 0 is no group. -/
def strokesCounted (p : Pump) (d : Nat) (s : State) : State :=
  if d = 0 then s
  else
    let volume := d * s.config.strokeVolume p
    let c := s.circ.pump p
    sweepStrokes volume
      (s.setCirc (s.circ.setPump p ⟨(c.strokes + d) % 4294967296, satAdd max48 c.volume volume⟩))

/-- The hold ends the sweep, which stays owed; the end is an evaluation event of a start (R134, R130). -/
def endHold (s : State) : State := sweepStart 0 (endSweepOwed .endedHold s)

/-- The hold timer replaced. -/
def setHold (h : Option Nat) (r : SweepRun) (s : State) : State :=
  s.setSweep { s.sweep with current := some { r with holdMs := h } }

/-- The hold timer brought to the pumping states: it starts at the event at which no pump remains PUMPING, and a
hold time of 0 ends the sweep there; a pump PUMPING stops it (R134). -/
def holdFollowsPumps (s : State) : State :=
  match s.sweep.current with
  | none => s
  | some r =>
    if s.anyPumping then setHold none r s
    else if r.holdMs.isSome then s
    else if s.config.sweepHold = 0 then endHold (setHold (some 0) r s)
    else setHold (some 0) r s

/-- A change of a pump's pumping state at the circulation unit: the settle timer restarts (R111), the hold follows
(R134), and it is an evaluation event of a sweep start (R130). -/
def pumpStateChanged (s : State) : State :=
  sweepStart 0 (holdFollowsPumps (s.setCirc { s.circ with settleMs := 0 }))

end Sys2Proof.Machine
end

