-- ==== Sys2Proof/Machine/Hub.lean ====
section
/-! DEFINITION. The hub line receiver: decoding a frame (R203), taking its slots (R50, R51, R53), stroke accounting
(R54), pumping states (R56), link loss (R55), and what an event of the receiver hands on (R57). -/
namespace Sys2Proof.Machine

/-! ## The frame (R203) -/

/-- Bit `n` of a frame, bit 0 being the one sampled at the frame start. -/
def frameBit (f : BitVec 120) (n : Nat) : Bool := f.toNat / 2 ^ (119 - n) % 2 == 1

/-- The value that slot `k` carries, slots numbered 1 to 7. -/
def slotValue (f : BitVec 120) (k : Nat) : Nat := f.toNat / 2 ^ (112 - 16 * k) % 65536

/-- What a frame brings for slot `k`: its value where the slot is valid (R50). -/
def slotOf (f : BitVec 120) (k : Nat) : Option Nat :=
  if frameBit f 0 && frameBit f k then some (slotValue f k) else none

/-! ## One quantity, one pump -/

/-- A value limited to its range (R51), or an invalid slot (R50, R53). -/
def Quantity.take (lo hi : Nat) (x : Option Nat) (q : Quantity) : Quantity :=
  match x with
  | some v => ⟨max lo (min v hi), 0⟩
  | none => ⟨q.value, min (q.invalid + 1) 25⟩

/-- A pump whose stroke slot is stale or whose link is lost: no reference, UNKNOWN, timer stopped (R54 to R56). -/
def PumpLine.lose (l : PumpLine) : PumpLine := { l with ref := none, state := .unknown, timerMs := 0 }

/-- The difference of two counter values, modulo 65,536 (R54). -/
def strokeDiff (v ref : Nat) : Nat := (v + 65536 - ref) % 65536

/-- Stroke accounting at a stroke slot (R54, R56): the pump's line and the strokes counted. `stale` says whether the
slot's quantity is stale after the frame. -/
def PumpLine.take (x : Option Nat) (stale : Bool) (l : PumpLine) : PumpLine × Nat :=
  match x with
  | none => (if stale then l.lose else l, 0)
  | some v =>
    match l.ref with
    | none => ({ l with ref := some v }, 0)
    | some r =>
      let d := strokeDiff v r
      if d = 0 then ({ l with ref := some v, state := if l.state = .unknown then .stopped else l.state }, 0)
      else if d ≤ 50 then ({ l with ref := some v, state := .pumping, timerMs := 0 }, d)
      else ({ l with ref := some v, resyncs := (l.resyncs + 1) % 65536 }, 0)

/-! ## A frame's changes to the table -/

/-- The seven quantities and the pumps after the slots of one frame (R50, R51). -/
def HubUnit.takeSlots (slot : Nat → Option Nat) (h : HubUnit) : HubUnit :=
  let a := h.strokesA.take 0 65535 (slot 1)
  let b := h.strokesB.take 0 65535 (slot 2)
  { h with
    strokesA := a
    strokesB := b
    pitLevel := h.pitLevel.take 0 4000 (slot 3)
    hookLoad := h.hookLoad.take 0 60000 (slot 4)
    stickUp  := h.stickUp.take 0 20000 (slot 5)
    rotary   := h.rotary.take 0 1000 (slot 6)
    density  := h.density.take 1000 2400 (slot 7)
    pumpA    := (h.pumpA.take (slot 1) a.stale).1
    pumpB    := (h.pumpB.take (slot 2) b.stale).1 }

/-- The strokes counted for a pump at one frame (R54). -/
def HubUnit.strokesOf (slot : Nat → Option Nat) (h : HubUnit) : Pump → Nat
  | .a => (h.pumpA.take (slot 1) (h.strokesA.take 0 65535 (slot 1)).stale).2
  | .b => (h.pumpB.take (slot 2) (h.strokesB.take 0 65535 (slot 2)).stale).2

/-! ## Hand-on (R57) -/

/-- What an event of the receiver hands to the other blocks (R57). -/
structure HandOn where
  strokesA : Nat
  strokesB : Nat
  pumps    : Bool
  rotation : Bool
  pit      : Bool
  stickUp  : Bool
  activity : Bool
deriving DecidableEq, Repr

/-- What the circulation unit and the handler do with an event of the receiver, in the order of R57's table (log 19). -/
def handOnFlow (h : HandOn) (s : State) : State :=
  let t := anyOrder [strokesCounted .a h.strokesA, strokesCounted .b h.strokesB] s
  let t := if h.pumps then pumpStateChanged t else t
  let t := if h.pit then pitValueTaken t else t
  if h.pumps || h.rotation then runQueue t else t

/-- The bit depth recomputation at a stick-up value taken (R5, R57). -/
def handOnDepth (h : HandOn) (s : State) : State := if h.stickUp then recomputeDepth s else s

/-- The re-derivation of the activity (R151, R57). -/
def handOnActivity (h : HandOn) (s : State) : State := if h.activity then deriveActivity s else s

/-- The events of the receiver handed on to the other blocks, which take no order among themselves (R50, R151). The
circulation unit takes a drilled length after the strokes and the pumping states of the same frame, as R57's table has
them (log 19, log 20). -/
def handOn (h : HandOn) (s : State) : State := withExtension [handOnDepth h, handOnFlow h, handOnActivity h] s

/-- What has changed between two tables in pumping states and rotation, handed on with the strokes and the values of
a frame, if there was one. -/
def handOnChanges (before : State) (strokesA strokesB : Nat) (pit stickUp anyTaken : Bool) (s : State) : State :=
  let pumps := before.hub.pumpA.state != s.hub.pumpA.state || before.hub.pumpB.state != s.hub.pumpB.state
  let rotation := before.rotating != s.rotating
  let freshness := before.hub.strokesA.stale != s.hub.strokesA.stale ||
    before.hub.strokesB.stale != s.hub.strokesB.stale || before.hub.rotary.stale != s.hub.rotary.stale
  handOn ⟨strokesA, strokesB, pumps, rotation, pit, stickUp, anyTaken || pumps || rotation || freshness⟩ s

/-- The slots of one frame taken, and the whole frame's events handed on (R50, R57). -/
def takeFrame (slot : Nat → Option Nat) (s : State) : State :=
  let anyTaken := [1, 2, 3, 4, 5, 6, 7].any fun k => (slot k).isSome
  handOnChanges s (s.hub.strokesOf slot .a) (s.hub.strokesOf slot .b) (slot 3).isSome (slot 5).isSome anyTaken
    (s.setHub (s.hub.takeSlots slot))

/-! ## The receiver's events -/

/-- A complete frame arrives (R49, R50, R52). -/
def frameArrives (f : BitVec 120) (s : State) : State :=
  if s.hub.frameOpen then
    let h := s.hub
    takeFrame (slotOf f) (s.setHub { h with
      frameOpen := false
      frames := (h.frames + 1) % 65536
      notGood := if frameBit f 0 then h.notGood else (h.notGood + 1) % 65536
      linkUp := true
      linkMs := if h.linkUp then h.linkMs else 0 })
  else s

/-- A frame start (R48, R49, R52): a frame in progress is cut short, as one frame of invalid slots, and a new frame
begins. The short-frame count advances and the complete-frame count does not (R49). The not-good count does not either,
since R49's list advances it at an arrival alone, though R49 also says "as if a complete frame had arrived with
frame-good false" (DESIGN CHOICE, log 49). -/
def frameStarts (s : State) : State :=
  let h := s.hub
  let t := s.setHub { h with frameOpen := true, linkMs := 0, sinceStartMs := some 0 }
  if h.frameOpen then
    takeFrame (fun _ => none) (t.setHub { t.hub with shortFrames := (h.shortFrames + 1) % 65536 })
  else t

/-- A quantity at link loss (R55). -/
def Quantity.lose (q : Quantity) : Quantity := ⟨q.value, 25⟩

/-- The link is lost (R55). -/
def linkLost (s : State) : State :=
  if s.hub.linkUp then
    let h := s.hub
    handOnChanges s 0 0 false false false (s.setHub { h with
      strokesA := h.strokesA.lose
      strokesB := h.strokesB.lose
      pitLevel := h.pitLevel.lose
      hookLoad := h.hookLoad.lose
      stickUp := h.stickUp.lose
      rotary := h.rotary.lose
      density := h.density.lose
      pumpA := h.pumpA.lose
      pumpB := h.pumpB.lose
      linkUp := false
      frameOpen := false })
  else s

/-- The line of a pump. -/
def HubUnit.pump (h : HubUnit) : Pump → PumpLine
  | .a => h.pumpA
  | .b => h.pumpB

/-- A pump's line replaced. -/
def HubUnit.setPump (h : HubUnit) (p : Pump) (l : PumpLine) : HubUnit :=
  match p with
  | .a => { h with pumpA := l }
  | .b => { h with pumpB := l }

/-- A PUMPING pump becomes STOPPED and its timer stops (R56). -/
def PumpLine.stop (l : PumpLine) : PumpLine :=
  if l.state = .pumping then { l with state := .stopped, timerMs := 0 } else l

/-- The stroke timer of a pump reaches the stroke timeout (R56). -/
def strokeTimedOut (p : Pump) (s : State) : State :=
  if (s.hub.pump p).state = .pumping then
    handOnChanges s 0 0 false false false (s.setHub (s.hub.setPump p (s.hub.pump p).stop))
  else s

end Sys2Proof.Machine
end

