-- ==== Sys2Proof/Machine/Formats.lean ====
section
/-! DEFINITION. The codes of R200, the record layouts of R202, and the bodies of the replies, whose fields follow one
another in the order of the rule of each request (R200, R201). -/
namespace Sys2Proof.Machine

/-! ## Codes (R200, R150) -/

/-- Rod kind. -/
def RodKind.code : RodKind → Nat
  | .rod => 0
  | .collar => 1
  | .sub => 2

/-- Rod status. -/
def RodStatus.code : RodStatus → Nat
  | .inService => 0
  | .worn => 1

/-- Rod location. -/
def Location.code : Location → Nat
  | .rack _ => 0
  | .string _ => 1
  | .quarantine => 2
  | .inTransfer => 3
  | .uncertain => 4

/-- The rack slot or string position of a location, 0 where it names none. -/
def Location.place : Location → Nat
  | .rack n => n
  | .string n => n
  | .quarantine => 0
  | .inTransfer => 0
  | .uncertain => 0

/-- A holder. -/
def holderCode : Holder → Nat
  | .slips => 1
  | .elevator => 2

/-- A carrier, a transfer's holder or NONE. -/
def carrierCode : Option Holder → Nat
  | some h => holderCode h
  | none => 0

/-- Handler kind. -/
def OpKind.code : OpKind → Nat
  | .addRod => 0
  | .pullRod => 1
  | .transferHold => 2

/-- Stage. -/
def Stage.code : Stage → Nat
  | .queued => 0
  | .waiting => 1
  | .setting => 2
  | .joining => 3
  | .placing => 4
  | .lifting => 5
  | .unjoining => 6
  | .liftingOut => 7
  | .racking => 8

/-- Pumping state. -/
def PumpState.code : PumpState → Nat
  | .stopped => 0
  | .pumping => 1
  | .unknown => 2

/-- Rotating state. -/
def Rotating.code : Rotating → Nat
  | .no => 0
  | .yes => 1
  | .unknown => 2

/-- Job state. -/
def JobState.code : JobState → Nat
  | .active => 0
  | .complete => 1
  | .priced => 2
  | .settled => 3

/-- Charge kind. -/
def ChargeKind.code : ChargeKind → Nat
  | .footage => 0
  | .time => 1
  | .mud => 2
  | .strike => 3
  | .fixed => 4

/-- Activity (R150). -/
def Activity.code : Activity → Nat
  | .down => 0
  | .drilling => 1
  | .reaming => 2
  | .tripping => 3
  | .circulating => 4
  | .idle => 5
  | .standby => 6
  | .shutdown => 7

/-- Abort reason. -/
def AbortReason.code : AbortReason → Nat
  | .timeout => 0
  | .cancelled => 1
  | .allStop => 2
  | .holdFault => 3
  | .handlerFault => 4
  | .invalid => 5
  | .reset => 6

/-- Weight check state. -/
def WeightState.code : WeightState → Nat
  | .notEvaluated => 0
  | .within => 1
  | .mismatch => 2

/-- Balance cause. -/
def BalanceCause.code : BalanceCause → Nat
  | .operation => 0
  | .rebase => 1
  | .complete => 2
  | .openJob => 3
  | .firstValue => 4

/-- Balance outcome. -/
def BalanceOutcome.code : BalanceOutcome → Nat
  | .bookedLoss => 0
  | .bookedInflow => 1
  | .belowHysteresis => 2
  | .discardedNoJob => 3
  | .skippedStale => 4
  | .rebasedOnly => 5

/-- Sweep outcome. -/
def SweepOutcome.code : SweepOutcome → Nat
  | .completed => 0
  | .endedHold => 1
  | .endedDrilling => 2
  | .waived => 3
  | .endedJobComplete => 4

/-- State of the sweep in progress (R127): 0 NONE, 1 SURVEYING, 2 RUNNING, 3 HELD. -/
def sweepStateCode : Option SweepRun → Nat
  | none => 0
  | some r => if r.target.isNone then 1 else if r.holdMs.isNone then 2 else 3

/-- Start mark. -/
def StartMark.code : StartMark → Nat
  | .none => 0
  | .warm => 1
  | .cold => 2

/-- Malformed kind. -/
def MalformedKind.code : MalformedKind → Nat
  | .none => 0
  | .partialByte => 1
  | .short => 2
  | .long => 3
  | .lengthRange => 4

/-! ## Records -/

/-- The rod record, 24 bytes (R202). -/
def rodBody (r : RodRecord) : List Byte :=
  be 2 r.tag ++ be 1 r.kind.code ++ be 2 r.length ++ be 2 r.od ++ be 2 r.id ++ be 2 r.mass ++ be 2 r.wearUnits ++
    be 4 r.wearMilli ++ be 2 r.wearLimit ++ be 1 r.status.code ++ be 1 r.location.code ++ be 1 r.location.place ++
    opt 1 r.reservation

/-- The strike part of the interval record: all zeros when absent (R202). -/
def strikeBody : Option Strike → List Byte
  | some k => flag true ++ be 4 k.depth ++ optInt 4 k.level ++ opt 2 k.yield
  | none => List.replicate 13 0

/-- The interval record, 42 bytes (R202). -/
def intervalBody (s : State) (slot ordinal : Nat) (i : Interval) : List Byte :=
  be 1 slot ++ be 1 ordinal ++ be 1 (s.job.jobs.intervalsAt slot) ++ be 1 s.poolFree ++ be 4 i.top ++ be 4 i.bottom ++
    be 1 i.formation ++ be 1 i.hardness ++ be 2 i.diameter ++ be 4 i.drillSec ++ be 4 i.lostMud ++ be 4 i.inflow ++
    flag i.mismatch ++ strikeBody i.strike

/-- The interval at a depth of a slot's map, as a reply carries it. -/
def intervalReply (s : State) (slot depth : Nat) : List Byte :=
  match (s.job.jobs.get slot).bind fun j => intervalAt depth j.map with
  | some (n, i) => intervalBody s slot n i
  | none => []

/-- The penetration rate, mm/h, absent with no drilling seconds (R39). -/
def Interval.rate (i : Interval) : Option Nat :=
  if i.drillSec = 0 then none else some (min (i.length * 3600 / i.drillSec) max32)

/-- The invoice line with its number, 31 bytes (R202). -/
def lineBody (n : Nat) (l : Line) : List Byte :=
  be 1 n ++ be 1 l.kind.code ++ opt 1 l.index ++ optText 12 l.label ++ be 4 l.qty ++ be 4 l.rate ++ be 6 l.amount

/-! ## The string (R21, R22) -/

/-- One member in LIST STRING (R21). -/
def memberBody (position : Nat) (r : RodRecord) : List Byte :=
  be 1 position ++ be 2 r.tag ++ be 1 r.kind.code ++ be 2 r.length ++ be 2 r.od ++ be 1 r.status.code

/-- The members from a position upward, numbered (R21). -/
def membersFrom (position : Nat) : List RodRecord → List Byte
  | [] => []
  | r :: rs => memberBody position r ++ membersFrom (position + 1) rs

/-- The reply of LIST STRING (R21). -/
def listStringBody (u : RodUnit) (start : Nat) : List Byte :=
  be 1 u.members.length ++ membersFrom start ((u.memberRecords.drop (start - 1)).take 6)

/-- A quantity's value with its mark, 1 for fresh (R200). -/
def quantityBody (q : Quantity) : List Byte := be 2 q.value ++ flag (!q.stale)

/-- The number of WORN members (R22). -/
def RodUnit.wornMembers (u : RodUnit) : Nat := (u.memberRecords.filter fun r => r.status == .worn).length

/-- The number of UNCERTAIN records (R22). -/
def RodUnit.uncertainCount (u : RodUnit) : Nat := (u.rods.filter fun r => r.location == .uncertain).length

/-- The reply of READ STRING (R22). -/
def readStringBody (s : State) : List Byte :=
  be 1 s.rod.members.length ++ be 4 s.rod.stringLength ++ quantityBody s.hub.stickUp ++ be 4 s.rod.rawDepth ++
    be 4 s.rod.repDepth ++ be 4 s.steelNow ++ be 4 s.expectedHookLoad ++ be 1 s.weightState.code ++
    be 1 s.rod.wornMembers ++ be 1 s.rod.uncertainCount ++ opt 2 s.rod.lastWorn

/-! ## Live values (R60) -/

/-- A quantity with its mark and invalid count (R60). -/
def liveBody (q : Quantity) : List Byte := quantityBody q ++ be 1 q.invalid

/-- Time since the most recent frame start, stopping at 65,535, which also stands for none (R60). -/
def HubUnit.frameAge (h : HubUnit) : Nat :=
  match h.sinceStartMs with
  | some ms => min ms 65535
  | none => 65535

/-- The reply of READ LIVE (R60). -/
def readLiveBody (s : State) : List Byte :=
  liveBody s.hub.strokesA ++ liveBody s.hub.strokesB ++ liveBody s.hub.pitLevel ++ liveBody s.hub.hookLoad ++
    liveBody s.hub.stickUp ++ liveBody s.hub.rotary ++ liveBody s.hub.density ++ flag s.hub.linkUp ++
    be 2 s.hub.frameAge ++ be 1 s.hub.pumpA.state.code ++ be 1 s.hub.pumpB.state.code ++ be 1 s.rotating.code ++
    flag s.pins.slipsClosed ++ flag s.pins.elevClosed ++ flag s.pins.wrenchDone ++ flag s.pins.racked ++
    flag s.pins.allstopN ++ flag s.pins.rateKey ++ be 2 s.hub.frames ++ be 2 s.hub.notGood ++ be 2 s.hub.shortFrames ++
    be 2 s.hub.pumpA.resyncs ++ be 2 s.hub.pumpB.resyncs

/-! ## The handler (R85), layout by log 13 -/

/-- The argument of an operation as a number. -/
def Operation.argument : Operation → Nat
  | .addRod tag => tag
  | .pullRod slot => slot
  | .transferHold h => holderCode h

/-- One queue entry (R85). -/
def entryBody (e : Entry) : List Byte :=
  be 1 e.num ++ be 1 e.op.kind.code ++ be 2 e.op.argument ++ be 1 e.stage.code

/-- The last-outcome record after its presence byte (R67, R85). -/
def outcomeBody (o : Outcome) : List Byte :=
  be 1 o.num ++ be 1 o.kind.code ++ flag o.reason.isSome ++ opt 1 (o.reason.map AbortReason.code) ++ opt 2 o.tag

/-- The part of READ HANDLER that a head past WAITING adds (R85). -/
def stageBody (h : HandlerUnit) : List Byte :=
  if h.pastWaiting then
    be 4 (min h.stageMs max32) ++ flag h.transfer.isSome ++ be 1 (carrierCode (h.transfer.map (·.target)))
  else []

/-- The reply of READ HANDLER (R85). -/
def readHandlerBody (s : State) : List Byte :=
  let h := s.handler
  be 1 h.queue.length ++ (h.queue.map entryBody).flatten ++ stageBody h ++ be 1 (carrierCode h.carrier) ++
    flag h.slipsRel ++ flag h.elevRel ++ flag h.rotPermit ++ flag h.wrenchPermit ++ flag s.pumpPermit ++
    flag s.pumpPermit ++ flag h.blankingMs.isSome ++ flag h.holdFault ++ flag h.handlerFault ++
    (match h.lastOutcome with
      | some o => flag true ++ outcomeBody o
      | none => List.replicate 9 0)

/-- The reply of CLEAR FAULTS (R189); with the carrier NONE there is no input, and the level reads 0 (log 16). -/
def clearFaultsBody (s : State) : List Byte :=
  flag s.handler.holdFault ++ flag s.handler.handlerFault ++ be 1 (carrierCode s.handler.carrier) ++
    flag ((s.handler.carrier.map s.pins.closed).getD false)

/-! ## Circulation (R97, R104) -/

/-- The displacement and efficiency in force for a pump (R96). -/
def ConfigStore.pumpItems (c : ConfigStore) : Pump → Nat × Nat
  | .a => (c.dispA, c.effA)
  | .b => (c.dispB, c.effB)

/-- The number of a pump (R97). -/
def pumpNumber : Pump → Nat
  | .a => 1
  | .b => 2

/-- The reply of SET PUMP (R97). -/
def setPumpBody (c : ConfigStore) (p : Pump) : List Byte :=
  be 1 (pumpNumber p) ++ be 2 (c.pumpItems p).1 ++ be 1 (c.pumpItems p).2 ++ be 4 (c.strokeVolume p)

/-- A pump's figures in READ CIRCULATION (R104 item 7). -/
def pumpFigures (s : State) (p : Pump) : List Byte :=
  be 2 (s.config.pumpItems p).1 ++ be 1 (s.config.pumpItems p).2 ++ be 1 (s.hub.pump p).state.code ++
    be 4 (s.circ.pump p).strokes ++ be 6 ((s.circ.pump p).volume / 100)

/-- The three volumes of a survey's snapshot, all 0 with no ACTIVE job (R101, R102): annular, hole, steel. -/
def Snapshot.volumes (x : Snapshot) : Nat × Nat × Nat :=
  if x.slot = 0 then (0, 0, 0) else (annularVolume x, holeVolume x.map, steelVolume x.depth x.members)

/-- The reply of READ CIRCULATION (R104). -/
def circulationBody (s : State) (v : Survey) : List Byte :=
  let x := v.snapshot
  be 1 x.slot ++ be 4 x.depth ++ be 4 x.holeDepth ++ be 1 x.members.length ++ be 4 x.volumes.1 ++ be 4 x.volumes.2.1 ++
    be 4 x.volumes.2.2 ++ be 2 v.restarts ++ pumpFigures s .a ++ pumpFigures s .b ++
    be 6 ((s.circ.pumpA.volume + s.circ.pumpB.volume) / 100)

/-! ## The balance (R120 to R123) -/

/-- The reply of MUD CHECK (R122). -/
def mudCheckBody (s : State) : List Byte := be 2 s.config.mudDensity ++ quantityBody s.hub.density ++ be 2 s.densityInUse

/-- The last balance record (R118), 15 bytes. R118 gives the handler entry for the cause OPERATION alone: for another cause
it is absent, so the field has a presence byte of its own (DEDUCED, log 41). -/
def balanceRecordBody (r : BalanceRecord) : List Byte :=
  be 1 r.cause.code ++ be 1 r.outcome.code ++ optInt 4 r.balance ++ opt 4 r.depth ++ be 1 r.slot ++ opt 1 r.entry

/-- The reference values of a reply (R120, R123). -/
def referenceBody (r : Reference) : List Byte := be 4 r.pRef ++ be 4 r.hRef ++ be 4 r.sRef

/-- A quantity that is absent while the reference is INVALID (R123). -/
def State.whileValid (s : State) (x : Int) : Option Int := if s.circ.ref.valid then some x else none

/-- Page 0 of READ BALANCE (R123). -/
def balancePage0 (s : State) : List Byte :=
  quantityBody s.hub.pitLevel ++ be 2 s.config.pitArea ++ be 4 s.measured ++ flag s.circ.ref.valid ++
    referenceBody s.circ.ref ++ be 4 s.addedNow ++ be 4 s.steelNow ++ optInt 4 (s.whileValid s.expected) ++
    optInt 4 (s.whileValid s.balance) ++ optInt 4 (s.whileValid (s.balance.tdiv 1000)) ++ flag s.settled ++
    be 4 (min (s.circ.settleMs / 1000) max32) ++ flag s.circ.loss ++ flag s.circ.gain ++ flag s.circ.pitLow ++
    flag s.pumpPermit ++ flag s.pumpPermit

/-- Page 1 of READ BALANCE (R123). -/
def balancePage1 (s : State) : List Byte :=
  match s.circ.lastBalance with
  | some r => flag true ++ balanceRecordBody r
  | none => List.replicate 16 0

/-! ## The sweep (R137, R138, R140) -/

/-- The reply of REQUEST SWEEP (R137). -/
def requestSweepBody (s : State) : List Byte := flag s.sweep.owed ++ flag s.sweep.overdue ++ be 4 s.sweep.counter

/-- The waived sweeps of the ACTIVE job, or 0. -/
def State.activeWaived (s : State) : Nat := ((s.activeJob.map fun x => x.2.waived)).getD 0

/-- The reply of WAIVE SWEEP (R138). -/
def waiveSweepBody (s : State) : List Byte := be 1 s.activeSlot ++ be 1 s.activeWaived

/-- The last sweep record after its presence byte (R136); its progress takes 6 bytes, as progress does (R200). -/
def sweepRecordBody (r : SweepRecord) : List Byte :=
  be 1 r.outcome.code ++ be 1 r.slot ++ opt 4 r.target ++ opt 6 r.progress ++ flag r.overdue

/-- The reply of READ SWEEP (R140): progress in 6 bytes (R200), the other widths by log 15. -/
def readSweepBody (s : State) : List Byte :=
  let w := s.sweep
  requestSweepBody s ++ be 2 s.config.sweepSpacing ++ be 4 (s.config.sweepSpacing - w.counter) ++
    be 1 (sweepStateCode w.current) ++ opt 4 (w.current.bind (·.target)) ++ opt 6 (w.current.map (·.progress)) ++
    opt 6 (w.current.map (·.progress / 100)) ++ opt 4 ((w.current.bind (·.holdMs)).map (· / 1000)) ++
    be 2 s.config.sweepHold ++ be 2 s.config.sweepFactor ++ be 1 s.activeSlot ++ be 1 s.activeWaived ++
    (match w.last with
      | some r => flag true ++ sweepRecordBody r
      | none => List.replicate 16 0)

/-! ## Jobs (R148) -/

/-- The job part of page 0 (R148). -/
def jobPart0 (j : Job) : List Byte :=
  be 1 j.state.code ++ be 4 j.customer ++ optText 16 j.site ++ be 4 j.bandWidth ++ be 2 j.bit ++ be 4 j.holeDepth ++
    be 1 j.map.length ++ be 1 (j.map.filter (·.mismatch)).length ++ be 1 (j.map.filter (·.strike.isSome)).length ++
    be 6 (j.map.map (·.lostMud)).sum ++ be 6 (j.map.map (·.inflow)).sum ++ be 1 j.waived ++ be 1 j.lines.length ++
    be 6 j.total

/-- Page 0 of LOOK UP JOB (R148). -/
def jobPage0 (s : State) (slot : Nat) (j : Option Job) : List Byte :=
  be 1 slot ++
    (match j with
      | some j => flag true ++ jobPart0 j
      | none => List.replicate 56 0) ++
    be 1 s.poolFree

/-- The job part of page 1 (R148): the counters in the order of R150. -/
def secondsBody (x : Seconds) : List Byte :=
  be 4 x.down ++ be 4 x.drilling ++ be 4 x.reaming ++ be 4 x.tripping ++ be 4 x.circulating ++ be 4 x.idle ++
    be 4 x.standby ++ be 4 x.shutdown

/-- The running idle or standby timer in seconds, or 0 (R148). -/
def JobUnit.timerSeconds (u : JobUnit) : Nat :=
  match u.activity with
  | .idle => min (u.idleMs / 1000) max32
  | .standby => min (u.standbyMs / 1000) max32
  | .shutdown => 0
  | .down => 0
  | .drilling => 0
  | .reaming => 0
  | .tripping => 0
  | .circulating => 0

/-- Page 1 of LOOK UP JOB (R148). -/
def jobPage1 (s : State) (slot : Nat) (j : Option Job) : List Byte :=
  be 1 slot ++
    (match j with
      | some j => flag true ++ secondsBody j.seconds
      | none => List.replicate 33 0) ++
    be 1 s.job.activity.code ++ flag s.holdMark ++ be 4 s.job.timerSeconds

/-! ## Rates and invoices (R162, R167, R175 to R177) -/

/-- A range filter with its presence byte (R163). -/
def filterBody (width : Nat) : Option (Nat × Nat) → List Byte
  | some (lo, hi) => flag true ++ be width lo ++ be width hi
  | none => List.replicate (1 + 2 * width) 0

/-- Whether a job is PRICED with a line that carries an index (R161). -/
def usesIndex (index : Nat) : Option Job → Bool
  | some j => j.state == .priced && j.lines.any fun l => l.index == some index
  | none => false

/-- The use count of an entry (R161). -/
def State.useCount (s : State) (index : Nat) : Nat :=
  (jobSlots.filter fun n => usesIndex index (s.job.jobs.get n)).length

/-- The fields of a rate entry (R162, R163). -/
def rateFields (e : RateEntry) : List Byte :=
  be 1 e.kind.code ++ filterBody 1 e.hardness ++ filterBody 1 e.band ++ filterBody 2 e.diameter ++ opt 1 e.activity ++
    be 4 e.rate ++ optText 12 e.label

/-- A rate entry in a reply (R162). -/
def rateBody (s : State) (index : Nat) (e : RateEntry) : List Byte :=
  be 1 index ++ flag true ++ rateFields e ++ be 1 (s.useCount index)

/-- The number of unpriced lines. -/
def Job.unpricedLines (j : Job) : Nat := (j.lines.filter fun l => l.index.isNone).length

/-- The reply of PRICE JOB, and the first part of READ INVOICE LINE (R167, R175). -/
def invoiceBody (slot : Nat) (j : Job) : List Byte :=
  be 1 slot ++ be 1 j.state.code ++ be 1 j.lines.length ++ be 1 j.unpricedLines ++ be 6 j.total

/-! ## Attention and configuration (R187, R191) -/

/-- One cause in READ ATTENTION: its pending state in bit 0 and its mask in bit 1 (R187). -/
def causeByte (s : State) (c : Cause) : List Byte :=
  be 1 ((if s.isPending c then 1 else 0) + (if s.config.isMasked c then 2 else 0))

/-- The reply of READ ATTENTION (R187). -/
def attentionBody (s : State) : List Byte :=
  (Cause.all.map (causeByte s)).flatten ++ flag s.bore.poolExhausted ++ be 1 s.power.startMark.code ++
    be 1 s.port.errors ++ be 1 s.port.lastKind.code ++ be 1 s.port.discards

end Sys2Proof.Machine
end

