-- ==== Sys2Proof/Machine/Operands.lean ====
section
/-! DEFINITION. The arguments of every request: one fixed length each, and every field decoded by its type and
range before the request's own conditions (R13, R37, R145, R162, R200, R201). A decoder answers none exactly where
the request is refused with OUT_OF_RANGE at steps 1 and 2. -/
namespace Sys2Proof.Machine

/-- The unsigned field of `n` bytes at an offset. -/
def num (args : List Byte) (off n : Nat) : Nat := fromBE ((args.drop off).take n)

/-- A value within its range, both bounds included (00, Units). -/
def inRange (lo hi v : Nat) : Option Nat := if lo ≤ v ∧ v ≤ hi then some v else none

/-- A field of `n` bytes within a range. -/
def field (args : List Byte) (off n lo hi : Nat) : Option Nat := inRange lo hi (num args off n)

/-- An optional field: a presence byte other than 0 or 1 is refused, and the bytes of an absent field are not read
(R201). -/
def optField (args : List Byte) (off n lo hi : Nat) : Option (Option Nat) :=
  match num args off 1 with
  | 0 => some none
  | 1 => (field args (off + 1) n lo hi).map some
  | _ => none

/-- An optional signed field of 4 bytes (R201). -/
def optSigned (args : List Byte) (off : Nat) (lo hi : Int) : Option (Option Int) :=
  match num args off 1 with
  | 0 => some none
  | 1 =>
    let v := signedOf 4 (num args (off + 1) 4)
    if lo ≤ v ∧ v ≤ hi then some (some v) else none
  | _ => none

/-- Whether every character is within 0x20..0x7E (R200). -/
def isText (t : List Byte) : Bool := t.all fun c => 0x20 ≤ c.toNat && c.toNat ≤ 0x7E

/-- An optional text of `n` characters (R201). -/
def optTextField (args : List Byte) (off n : Nat) : Option (Option (List Byte)) :=
  match num args off 1 with
  | 0 => some none
  | 1 =>
    let t := (args.drop (off + 1)).take n
    if isText t then some (some t) else none
  | _ => none

/-- An optional filter: presence byte, lo and hi of `n` bytes each, lo not above hi (R162, R163). -/
def filterField (args : List Byte) (off n lo hi : Nat) : Option (Option (Nat × Nat)) :=
  match num args off 1 with
  | 0 => some none
  | 1 =>
    match field args (off + 1) n lo hi, field args (off + 1 + n) n lo hi with
    | some l, some h => if l ≤ h then some (some (l, h)) else none
    | _, _ => none
  | _ => none

/-- Step 1 of every chapter's checks: the request's one argument length (R201). -/
def ofLength {α : Type} (n : Nat) (args : List Byte) (x : Option α) : Option α :=
  if args.length = n then x else none

/-- A request without arguments. -/
def noArgs (args : List Byte) : Option Unit := ofLength 0 args (some ())

/-! ## Rod requests -/

/-- Rod kinds by code (R200). -/
def rodKindOf : Nat → Option RodKind
  | 0 => some .rod
  | 1 => some .collar
  | 2 => some .sub
  | _ => none

/-- A tag, 1..65,534 (R1). -/
def tagField (args : List Byte) (off : Nat) : Option Nat := field args off 2 1 65534

/-- Arguments of ENTER ROD (R14): the new record, and the rack slot in its location. -/
def decodeEnterRod (args : List Byte) : Option (RodRecord × Nat) := ofLength 16 args do
  let tag ← tagField args 0
  let kind ← rodKindOf (num args 2 1)
  let length ← field args 3 2 1000 9600
  let od ← field args 5 2 40 300
  let id ← field args 7 2 0 (od - 10)
  let mass ← field args 9 2 10 3000
  let wear ← field args 11 2 0 65535
  let limit ← field args 13 2 1 65000
  let slot ← field args 15 1 1 200
  some (⟨tag, kind, length, od, id, mass, wear * 1000, limit, .rack slot, none⟩, slot)

/-- A request whose one argument is a tag (R15, R17, R19, R64). -/
def decodeTag (args : List Byte) : Option Nat := ofLength 2 args (tagField args 0)

/-- The amended fields of AMEND ROD (R16). -/
structure RodAmendment where
  tag    : Nat
  length : Option Nat
  od     : Option Nat
  id     : Option Nat
  mass   : Option Nat
  wear   : Option Nat
  limit  : Option Nat
deriving DecidableEq, Repr

/-- Arguments of AMEND ROD (R16), each field within the range of R1. An ID is 0..OD − 10 there, of an OD that the record
may yet have to give: here any ID that some OD allows is taken, 0..290, and one above 290 is OUT_OF_RANGE before the
conditions of R16 (DESIGN CHOICE, log 39). -/
def decodeAmendRod (args : List Byte) : Option RodAmendment := ofLength 20 args do
  let tag ← tagField args 0
  let length ← optField args 2 2 1000 9600
  let od ← optField args 5 2 40 300
  let id ← optField args 8 2 0 290
  let mass ← optField args 11 2 10 3000
  let wear ← optField args 14 2 0 65535
  let limit ← optField args 17 2 1 65000
  some ⟨tag, length, od, id, mass, wear, limit⟩

/-- Arguments of RETURN ROD (R18): tag and rack slot. -/
def decodeReturnRod (args : List Byte) : Option (Nat × Nat) := ofLength 3 args do
  let tag ← tagField args 0
  let slot ← field args 2 1 1 200
  some (tag, slot)

/-- Destination of RESOLVE ROD (R20, R200). -/
inductive Destination where
  | rack (slot : Nat)
  | stringTop
  | quarantine
deriving DecidableEq, Repr

/-- Arguments of RESOLVE ROD (R20): the slot is 1..200 for RACK and 0 for the others. -/
def decodeResolveRod (args : List Byte) : Option (Nat × Destination) := ofLength 4 args do
  let tag ← tagField args 0
  let slot := num args 3 1
  match num args 2 1 with
  | 0 => (inRange 1 200 slot).map fun n => (tag, .rack n)
  | 1 => if slot = 0 then some (tag, .stringTop) else none
  | 2 => if slot = 0 then some (tag, .quarantine) else none
  | _ => none

/-- The start position of LIST STRING (R21). -/
def decodeListString (args : List Byte) : Option Nat := ofLength 1 args (field args 0 1 1 200)

/-! ## Bore map requests -/

/-- A job slot 1..4 (R37). -/
def slotField (args : List Byte) (off : Nat) : Option Nat := field args off 1 1 4

/-- A depth 0..1,500,000 (R200). -/
def depthField (args : List Byte) (off : Nat) : Option Nat := field args off 4 0 maxDepth

/-- Arguments of NEW FORMATION (R38): formation and hardness class. -/
def decodeNewFormation (args : List Byte) : Option (Nat × Nat) := ofLength 2 args do
  let formation ← field args 0 1 0 11
  let hardness ← field args 1 1 1 8
  some (formation, hardness)

/-- How LOOK UP INTERVAL chooses (R39). -/
inductive IntervalChoice where
  | byDepth (depth : Nat)
  | byOrdinal (ordinal : Nat)
deriving DecidableEq, Repr

/-- Arguments of LOOK UP INTERVAL (R39). -/
def decodeLookUpInterval (args : List Byte) : Option (Nat × IntervalChoice) := ofLength 6 args do
  let slot ← slotField args 0
  match num args 1 1 with
  | 0 => (depthField args 2).map fun d => (slot, .byDepth d)
  | 1 => some (slot, .byOrdinal (num args 2 4))
  | _ => none

/-- The amended fields of AMEND INTERVAL (R40). -/
structure IntervalAmendment where
  slot      : Nat
  depth     : Nat
  formation : Option Nat
  hardness  : Option Nat
  diameter  : Option Nat
deriving DecidableEq, Repr

/-- Arguments of AMEND INTERVAL (R40). -/
def decodeAmendInterval (args : List Byte) : Option IntervalAmendment := ofLength 12 args do
  let slot ← slotField args 0
  let depth ← depthField args 1
  let formation ← optField args 5 1 0 11
  let hardness ← optField args 7 1 1 8
  let diameter ← optField args 9 2 50 900
  some ⟨slot, depth, formation, hardness, diameter⟩

/-- A job slot and a depth (R41, R42, R45). -/
def decodeSlotDepth (args : List Byte) : Option (Nat × Nat) := ofLength 5 args do
  let slot ← slotField args 0
  let depth ← depthField args 1
  some (slot, depth)

/-- The range of SET DIAMETER RANGE (R43). -/
structure DiameterRange where
  slot     : Nat
  lo       : Nat
  hi       : Nat
  diameter : Nat
deriving DecidableEq, Repr

/-- Arguments of SET DIAMETER RANGE (R43): a from depth not less than the to depth is out of range. -/
def decodeSetDiameterRange (args : List Byte) : Option DiameterRange := ofLength 11 args do
  let slot ← slotField args 0
  let lo ← depthField args 1
  let hi ← depthField args 5
  let diameter ← field args 9 2 50 900
  if lo < hi then some ⟨slot, lo, hi, diameter⟩ else none

/-- Arguments of RECORD STRIKE (R44): slot and strike. -/
def decodeRecordStrike (args : List Byte) : Option (Nat × Strike) := ofLength 13 args do
  let slot ← slotField args 0
  let depth ← depthField args 1
  let level ← optSigned args 5 (-30000) 1500000
  let yield ← optField args 10 2 0 10000
  some (slot, ⟨depth, level, yield⟩)

/-- The bit diameter of CHANGE BIT (R46). -/
def decodeChangeBit (args : List Byte) : Option Nat := ofLength 2 args (field args 0 2 50 900)

/-! ## Handler requests -/

/-- The target slot of PULL ROD (R65). -/
def decodePullRod (args : List Byte) : Option Nat := ofLength 1 args (field args 0 1 1 200)

/-- Holders by code; NONE is no target (R66, R200). -/
def holderOf : Nat → Option Holder
  | 1 => some .slips
  | 2 => some .elevator
  | _ => none

/-- The target of TRANSFER HOLD (R66). -/
def decodeTransferHold (args : List Byte) : Option Holder := ofLength 1 args (holderOf (num args 0 1))

/-! ## Circulation and balance requests -/

/-- Pumps by number (R97). -/
def pumpOf : Nat → Option Pump
  | 1 => some .a
  | 2 => some .b
  | _ => none

/-- Arguments of SET PUMP (R97): pump, displacement and efficiency, the last two not yet clamped. -/
def decodeSetPump (args : List Byte) : Option (Pump × Nat × Nat) := ofLength 4 args do
  let pump ← pumpOf (num args 0 1)
  some (pump, num args 1 2, num args 3 1)

/-- The density of MUD CHECK, not yet clamped (R122). -/
def decodeMudCheck (args : List Byte) : Option Nat := ofLength 2 args (some (num args 0 2))

/-- The page of READ BALANCE (R123). -/
def decodePage (args : List Byte) : Option Nat := ofLength 1 args (field args 0 1 0 1)

/-! ## Job requests -/

/-- Arguments of OPEN JOB (R146). -/
structure NewJob where
  customer  : Nat
  site      : Option (List Byte)
  bandWidth : Nat
  bit       : Nat
deriving DecidableEq, Repr

/-- Arguments of OPEN JOB (R145, R146), each within the range of R143. -/
def decodeOpenJob (args : List Byte) : Option NewJob := ofLength 27 args do
  let site ← optTextField args 4 16
  let bandWidth ← field args 21 4 1000 500000
  let bit ← field args 25 2 50 900
  some ⟨num args 0 4, site, bandWidth, bit⟩

/-- Arguments of LOOK UP JOB (R148): slot 0..4 and page. -/
def decodeLookUpJob (args : List Byte) : Option (Nat × Nat) := ofLength 2 args do
  let slot ← field args 0 1 0 4
  let page ← field args 1 1 0 1
  some (slot, page)

/-- A request whose one argument is a job slot 1..4 (R149, R167, R176, R177). -/
def decodeJobSlot (args : List Byte) : Option Nat := ofLength 1 args (slotField args 0)

/-! ## Rate requests -/

/-- Charge kinds by code (R200). -/
def chargeKindOf : Nat → Option ChargeKind
  | 0 => some .footage
  | 1 => some .time
  | 2 => some .mud
  | 3 => some .strike
  | 4 => some .fixed
  | _ => none

/-- A rate index 0..31 (R159). -/
def indexField (args : List Byte) : Option Nat := field args 0 1 0 31

/-- Arguments of ENTER RATE and AMEND RATE (R163): each filter occupies its full length. -/
def decodeRate (args : List Byte) : Option (Nat × RateEntry) := ofLength 32 args do
  let index ← indexField args
  let kind ← chargeKindOf (num args 1 1)
  let hardness ← filterField args 2 1 1 8
  let band ← filterField args 5 1 0 15
  let diameter ← filterField args 8 2 50 900
  let activity ← optField args 13 1 0 7
  let rate ← field args 15 4 0 1000000
  let label ← optTextField args 19 12
  some (index, ⟨kind, hardness, band, diameter, activity, rate, label⟩)

/-- A request whose one argument is a rate index (R165, R166). -/
def decodeIndex (args : List Byte) : Option Nat := ofLength 1 args (indexField args)

/-- Arguments of READ INVOICE LINE (R175): slot and start line 1..36. -/
def decodeInvoiceLine (args : List Byte) : Option (Nat × Nat) := ofLength 2 args do
  let slot ← slotField args 0
  let start ← field args 1 1 1 36
  some (slot, start)

/-! ## Configuration requests -/

/-- The item number of READ CONFIG (R191). -/
def decodeReadConfig (args : List Byte) : Option Nat := ofLength 1 args (some (num args 0 1))

/-- The item number and the value of SET CONFIG (R192). -/
def decodeSetConfig (args : List Byte) : Option (Nat × Nat) :=
  ofLength 5 args (some (num args 0 1, num args 1 4))

end Sys2Proof.Machine
end

