-- ==== Sys2Proof/Machine/Requests.lean ====
section
/-! DEFINITION. The request engine: acceptance, completion, discard (R181 to R184, log 1), and the answers that the
checks of every chapter give. -/
namespace Sys2Proof.Machine

/-- A request completes: its result replaces the held reply and the engine becomes IDLE (R181, R182). -/
def finish (r : Reply) (s : State) : State := s.setPort { s.port with held := r, engine := .idle }

/-- A refused request: its code with a length of 0, every record as it was (R182, R184). -/
def refuse (code : ReplyCode) (s : State) : State := finish ⟨code, []⟩ s

/-- A request carried out, with the body its rule gives (R184). -/
def done (body : List Byte) (s : State) : State := finish ⟨.done, body⟩ s

/-- A request carried out with a value clamped to its bound, or not (R184, R192). -/
def doneClamped (clamped : Bool) (body : List Byte) (s : State) : State :=
  finish ⟨if clamped then .doneClamped else .done, body⟩ s

/-- A request discarded for BUSY: only the busy discard count advances (R183, R188). -/
def discard (s : State) : State := s.setPort { s.port with discards := satAdd 255 s.port.discards 1 }

/-- A request that runs now (log 1): the part runs, and the engine is IDLE, so that the request is accepted and runs,
or holds this very request, accepted from an exchange. -/
def State.takes (s : State) (code : Byte) (args : List Byte) : Bool :=
  s.running && match s.port.engine with
    | .idle => true
    | .accepted c a _ => c == code && a == args
    | .surveying => false
    | .pricing => false

/-- A request row at the port (log 1): a request that finds the engine BUSY with another is discarded (R181, R183),
and a part that does not run takes none (R193, R195). -/
def runRequest (code : Byte) (args : List Byte) (act : State → State) (s : State) : State :=
  if s.takes code args then act s else if s.running then discard s else s

/-- A check on decoded arguments: OUT_OF_RANGE where they do not decode (R13, R37, R145, R162, R201). -/
def decoded {α : Type} (x : Option α) (k : α → State → State) (s : State) : State :=
  match x with
  | some v => k v s
  | none => refuse .outOfRange s

/-- A check that something named exists. -/
def found {α : Type} (code : ReplyCode) (x : Option α) (k : α → State → State) (s : State) : State :=
  match x with
  | some v => k v s
  | none => refuse code s

/-- A condition that refuses with a code where it fails. -/
def check (code : ReplyCode) (ok : Bool) (k : State → State) (s : State) : State :=
  if ok then k s else refuse code s

end Sys2Proof.Machine
end

