-- ==== Sys2Proof/Machine/BoreMap.lean ====
section
/-! DEFINITION. The bore map requests (R37 to R46). -/
namespace Sys2Proof.Machine

/-- The lock of R37 step 4: a PRICED or SETTLED job's map refuses edits. -/
def Job.editable (j : Job) : Bool := j.state == .active || j.state == .complete

/-- Steps 3 and 4 of R37 for a request that edits the map of a slot. -/
def editing (slot : Nat) (k : Job → State → State) (s : State) : State :=
  found .notFound (s.job.jobs.get slot) (fun j => check .locked j.editable (k j)) s

/-- The map of a slot replaced, as a map change (R26, R35). -/
def putMap (slot : Nat) (m : List Interval) (s : State) : State :=
  mapEdited (s.modifyJob slot fun j => j.withMap m)

/-- The map of a slot replaced, and the reply carries the interval at a depth (R37). -/
def doneMap (slot : Nat) (m : List Interval) (depth : Nat) (s : State) : State :=
  let t := putMap slot m s
  done (intervalReply t slot depth) t

/-! ## NEW FORMATION -/

/-- The map with a new formation at its bottom (R38): the zero-length deepest interval amended, or a new one opened. -/
def Job.newFormation (formation hardness : Nat) (j : Job) : List Interval :=
  if ((j.map.getLast?).map fun i => i.length == 0).getD false then
    modifyDeepest (fun i => { i with formation := formation, hardness := hardness, diameter := j.bit }) j.map
  else j.map ++ [newInterval j.holeDepth formation hardness j.bit]

/-- Whether NEW FORMATION takes a pool record (R38). -/
def Job.opensInterval (j : Job) : Bool := !(((j.map.getLast?).map fun i => i.length == 0).getD false)

/-- NEW FORMATION (R38). -/
def reqNewFormation (args : List Byte) : State → State :=
  decoded (decodeNewFormation args) fun x s =>
    found .noJob s.activeJob (fun a =>
      check .full (!a.2.opensInterval || decide (0 < s.poolFree))
        (doneMap a.1 (a.2.newFormation x.1 x.2) a.2.holeDepth)) s

/-- NEW_FORMATION. -/
def execNewFormation (args : List Byte) (s : State) : Host.Outcome State Fault Refusal :=
  .next (runRequest 0x20 args (reqNewFormation args) s)

/-! ## LOOK UP INTERVAL -/

/-- The interval chosen, with its ordinal (R39). -/
def choose (m : List Interval) : IntervalChoice → Option (Nat × Interval)
  | .byDepth d => intervalAt d m
  | .byOrdinal n => if n = 0 then none else (m[n - 1]?).map fun i => (n, i)

/-- LOOK UP INTERVAL (R39). -/
def reqLookUpInterval (args : List Byte) : State → State :=
  decoded (decodeLookUpInterval args) fun x s =>
    found .notFound (s.job.jobs.get x.1) (fun j =>
      found .notFound (choose j.map x.2) fun c t =>
        done (intervalBody t x.1 c.1 c.2 ++ opt 4 c.2.rate) t) s

/-- LOOK_UP_INTERVAL. -/
def execLookUpInterval (args : List Byte) (s : State) : Host.Outcome State Fault Refusal :=
  .next (runRequest 0x21 args (reqLookUpInterval args) s)

/-! ## AMEND INTERVAL -/

/-- The interval with the present fields written (R40). -/
def IntervalAmendment.apply (x : IntervalAmendment) (i : Interval) : Interval :=
  { i with
    formation := x.formation.getD i.formation
    hardness := x.hardness.getD i.hardness
    diameter := x.diameter.getD i.diameter }

/-- AMEND INTERVAL (R40). -/
def reqAmendInterval (args : List Byte) : State → State :=
  decoded (decodeAmendInterval args) fun x =>
    editing x.slot fun j => doneMap x.slot (modifyAt x.apply x.depth j.map) x.depth

/-- AMEND_INTERVAL. -/
def execAmendInterval (args : List Byte) (s : State) : Host.Outcome State Fault Refusal :=
  .next (runRequest 0x22 args (reqAmendInterval args) s)

/-! ## SPLIT INTERVAL -/

/-- SPLIT INTERVAL (R41); the interval at the split depth afterwards is the lower part. -/
def reqSplitInterval (args : List Byte) : State → State :=
  decoded (decodeSlotDepth args) fun x =>
    editing x.1 fun j =>
      check .wrongState (strictlyInside x.2 j.map) fun s =>
        check .full (decide (0 < s.poolFree)) (doneMap x.1 (splitMap x.2 j.map) x.2) s

/-- SPLIT_INTERVAL. -/
def execSplitInterval (args : List Byte) (s : State) : Host.Outcome State Fault Refusal :=
  .next (runRequest 0x23 args (reqSplitInterval args) s)

/-! ## MERGE INTERVALS -/

/-- The conditions of MERGE INTERVALS on the two intervals that meet (R42). -/
def mayMerge (p : Interval × Interval) : Bool :=
  p.1.diameter == p.2.diameter && !(p.1.strike.isSome && p.2.strike.isSome)

/-- MERGE INTERVALS (R42). The merged interval has the upper interval's top. -/
def reqMergeIntervals (args : List Byte) : State → State :=
  decoded (decodeSlotDepth args) fun x =>
    editing x.1 fun j =>
      found .wrongState (meetingAt x.2 j.map) fun p =>
        check .wrongState (mayMerge p) (doneMap x.1 (mergeMap x.2 j.map) p.1.top)

/-- MERGE_INTERVALS. -/
def execMergeIntervals (args : List Byte) (s : State) : Host.Outcome State Fault Refusal :=
  .next (runRequest 0x24 args (reqMergeIntervals args) s)

/-! ## SET DIAMETER RANGE -/

/-- The pool records a range needs (R43). -/
def rangeNeeds (x : DiameterRange) (m : List Interval) : Nat :=
  (if strictlyInside x.lo m then 1 else 0) + (if strictlyInside x.hi m then 1 else 0)

/-- The map split at both ends and re-diametered between them (R43). Where both ends lie in one interval R43 gives the
two splits no order, and a floored share may differ by a unit: the from depth is split first (DESIGN CHOICE, log 40). -/
def applyRange (x : DiameterRange) (m : List Interval) : List Interval :=
  recordDiameter x.lo x.hi x.diameter (splitMap x.hi (splitMap x.lo m))

/-- SET DIAMETER RANGE (R43). -/
def reqSetDiameterRange (args : List Byte) : State → State :=
  decoded (decodeSetDiameterRange args) fun x =>
    editing x.slot fun j =>
      check .wrongState (decide (x.hi ≤ j.holeDepth)) fun s =>
        check .full (decide (rangeNeeds x j.map ≤ s.poolFree)) (doneMap x.slot (applyRange x j.map) x.lo) s

/-- SET_DIAMETER_RANGE. -/
def execSetDiameterRange (args : List Byte) (s : State) : Host.Outcome State Fault Refusal :=
  .next (runRequest 0x25 args (reqSetDiameterRange args) s)

/-! ## RECORD STRIKE and CLEAR STRIKE -/

/-- The strike of the interval at a depth. -/
def strikeAt (d : Nat) (m : List Interval) : Option Strike := (intervalAt d m).bind fun x => x.2.strike

/-- RECORD STRIKE (R44). -/
def reqRecordStrike (args : List Byte) : State → State :=
  decoded (decodeRecordStrike args) fun x =>
    editing x.1 fun j =>
      check .wrongState (decide (x.2.depth < j.holeDepth))
        (check .wrongState (strikeAt x.2.depth j.map).isNone
          (doneMap x.1 (modifyAt (fun i => { i with strike := some x.2 }) x.2.depth j.map) x.2.depth))

/-- RECORD_STRIKE. -/
def execRecordStrike (args : List Byte) (s : State) : Host.Outcome State Fault Refusal :=
  .next (runRequest 0x26 args (reqRecordStrike args) s)

/-- CLEAR STRIKE (R45). -/
def reqClearStrike (args : List Byte) : State → State :=
  decoded (decodeSlotDepth args) fun x =>
    editing x.1 fun j =>
      check .wrongState (strikeAt x.2 j.map).isSome
        (doneMap x.1 (modifyAt (fun i => { i with strike := none }) x.2 j.map) x.2)

/-- CLEAR_STRIKE. -/
def execClearStrike (args : List Byte) (s : State) : Host.Outcome State Fault Refusal :=
  .next (runRequest 0x27 args (reqClearStrike args) s)

/-! ## CHANGE BIT -/

/-- CHANGE BIT (R46). -/
def reqChangeBit (args : List Byte) : State → State :=
  decoded (decodeChangeBit args) fun bit s =>
    found .noJob s.activeJob (fun a =>
      check .wrongState s.rod.members.isEmpty fun t =>
        done (be 1 a.1 ++ be 2 bit) (t.putJob a.1 (some { a.2 with bit := bit }))) s

/-- CHANGE_BIT. -/
def execChangeBit (args : List Byte) (s : State) : Host.Outcome State Fault Refusal :=
  .next (runRequest 0x28 args (reqChangeBit args) s)

end Sys2Proof.Machine
end

