-- ==== Sys2Proof/Machine/Circulation.lean ====
section
/-! DEFINITION. The circulation, balance and sweep requests (R97, R104, R120 to R123, R137 to R140) and the events of
the survey, the settle timer and the sweep hold (R101, R111, R134). -/
namespace Sys2Proof.Machine

/-- A value brought to the nearest bound of its range (R192). -/
def clamp (lo hi v : Nat) : Nat := max lo (min v hi)

/-! ## SET PUMP -/

/-- Both items of a pump replaced (R97). -/
def ConfigStore.setPumpItems (c : ConfigStore) (p : Pump) (disp eff : Nat) : ConfigStore :=
  match p with
  | .a => { c with dispA := disp, effA := eff }
  | .b => { c with dispB := disp, effB := eff }

/-- SET PUMP (R97). -/
def reqSetPump (args : List Byte) : State → State :=
  decoded (decodeSetPump args) fun x s =>
    let disp := clamp 100 40000 x.2.1
    let eff := clamp 50 100 x.2.2
    let c := s.config.setPumpItems x.1 disp eff
    doneClamped (disp != x.2.1 || eff != x.2.2) (setPumpBody c x.1) (s.setConfig c)

/-- SET_PUMP. -/
def execSetPump (args : List Byte) (s : State) : Host.Outcome State Fault Refusal :=
  .next (runRequest 0x50 args (reqSetPump args) s)

/-! ## READ CIRCULATION and the survey -/

/-- READ CIRCULATION (R104): it asks for a survey, and the engine stays BUSY until the survey completes. One that an
exchange accepted has asked at its acceptance, and finds itself among the waiters (log 42). -/
def reqReadCirculation (args : List Byte) : State → State :=
  decoded (noArgs args) fun _ s =>
    let t := askReadSurvey s
    t.setPort { t.port with engine := .surveying }

/-- READ_CIRCULATION. -/
def execReadCirculation (args : List Byte) (s : State) : Host.Outcome State Fault Refusal :=
  .next (runRequest 0x51 args (reqReadCirculation args) s)

/-- Whether the request engine holds a READ CIRCULATION, whose survey has been asked for (R104, R181). -/
def PortUnit.awaitsSurvey (p : PortUnit) : Bool :=
  match p.engine with
  | .surveying => true
  | .accepted code _ _ => code == 0x51
  | .idle => false
  | .pricing => false

/-- The survey's result handed to its READ waiter (R101, R104). -/
def answerReader (v : Survey) (s : State) : State :=
  if v.readWaits && s.port.awaitsSurvey then done (circulationBody s v) s else s

/-- The survey's result handed to its SWEEP waiter (R101, R132). -/
def answerSweep (v : Survey) (s : State) : State := if v.sweepWaits then setTarget v.snapshot.volumes.1 s else s

/-- The survey completes: its result goes to every waiter, and the engine is IDLE (R101). -/
def surveyCompletes (s : State) : State :=
  match s.circ.survey with
  | none => s
  | some v => answerSweep v (answerReader v (s.setSurvey none))

/-- SURVEY_COMPLETE (R101). -/
def execSurveyComplete (s : State) : Host.Outcome State Fault Refusal := .next (whenRunning surveyCompletes s)

/-! ## Balance requests -/

/-- MUD CHECK (R122). -/
def reqMudCheck (args : List Byte) : State → State :=
  decoded (decodeMudCheck args) fun v s =>
    let density := clamp 1000 2400 v
    let t := s.setConfig { s.config with mudDensity := density }
    doneClamped (density != v) (mudCheckBody t) t

/-- MUD_CHECK. -/
def execMudCheck (args : List Byte) (s : State) : Host.Outcome State Fault Refusal :=
  .next (runRequest 0x58 args (reqMudCheck args) s)

/-- The reply of REBASE BALANCE: the last balance record as the booking left it, then the reference (R120, log 14). -/
def rebaseBody (s : State) : List Byte :=
  ((s.circ.lastBalance.map balanceRecordBody).getD []) ++ referenceBody s.circ.ref

/-- REBASE BALANCE (R120). -/
def reqRebaseBalance (args : List Byte) : State → State :=
  decoded (noArgs args) fun _ s =>
    check .wrongState (!s.hub.pitLevel.stale) (fun s =>
      let t := book .rebase none s
      done (rebaseBody t) t) s

/-- REBASE_BALANCE. -/
def execRebaseBalance (args : List Byte) (s : State) : Host.Outcome State Fault Refusal :=
  .next (runRequest 0x59 args (reqRebaseBalance args) s)

/-- READ BALANCE (R123). -/
def reqReadBalance (args : List Byte) : State → State :=
  decoded (decodePage args) fun page s => done (if page = 0 then balancePage0 s else balancePage1 s) s

/-- READ_BALANCE. -/
def execReadBalance (args : List Byte) (s : State) : Host.Outcome State Fault Refusal :=
  .next (runRequest 0x5A args (reqReadBalance args) s)

/-- The settle timer reaches the settle time, and the handler is told (R111, R74). -/
def settles (s : State) : State :=
  if s.settled then s else runQueue (s.setCirc { s.circ with settleMs := s.config.settleTime * 1000 })

/-- SETTLE_REACHED (R111). -/
def execSettleReached (s : State) : Host.Outcome State Fault Refusal := .next (whenRunning settles s)

/-! ## Sweep requests and the hold -/

/-- The owed flag set by request, an evaluation event of R130 (R137). -/
def oweSweep (s : State) : State :=
  if s.sweep.owed then s else sweepStart 0 (s.setSweep { s.sweep with owed := true })

/-- REQUEST SWEEP (R137). -/
def reqRequestSweep (args : List Byte) : State → State :=
  decoded (noArgs args) fun _ s =>
    check .noJob s.activeJob.isSome (fun s =>
      let t := oweSweep s
      done (requestSweepBody t) t) s

/-- REQUEST_SWEEP. -/
def execRequestSweep (args : List Byte) (s : State) : Host.Outcome State Fault Refusal :=
  .next (runRequest 0x60 args (reqRequestSweep args) s)

/-- A waiver counted against the ACTIVE job (R138). -/
def countWaiver (s : State) : State := s.modifyActive fun j => { j with waived := satAdd 255 j.waived 1 }

/-- WAIVE SWEEP (R138). -/
def reqWaiveSweep (args : List Byte) : State → State :=
  decoded (noArgs args) fun _ s =>
    check .wrongState s.sweep.owed (fun s =>
      let t := runQueue (countWaiver (dischargeSweep .waived s))
      done (waiveSweepBody t) t) s

/-- WAIVE_SWEEP. -/
def execWaiveSweep (args : List Byte) (s : State) : Host.Outcome State Fault Refusal :=
  .next (runRequest 0x61 args (reqWaiveSweep args) s)

/-- READ SWEEP (R140). -/
def reqReadSweep (args : List Byte) : State → State := decoded (noArgs args) fun _ s => done (readSweepBody s) s

/-- READ_SWEEP. -/
def execReadSweep (args : List Byte) (s : State) : Host.Outcome State Fault Refusal :=
  .next (runRequest 0x62 args (reqReadSweep args) s)

/-- The hold timer reaches the hold time (R134). -/
def holdExpires (s : State) : State :=
  match s.sweep.current.bind (·.holdMs) with
  | some _ => endHold s
  | none => s

/-- SWEEP_HOLD_EXPIRY (R134). -/
def execSweepHoldExpiry (s : State) : Host.Outcome State Fault Refusal := .next (whenRunning holdExpires s)

end Sys2Proof.Machine
end

