-- ==== Sys2Proof/Machine/HandlerEvents.lean ====
section
/-! DEFINITION. The events of the confirmation inputs, the handler's timers and the all-stop chain (R68 to R83). -/
namespace Sys2Proof.Machine

/-! ## Members moved by stage events (R8) -/

/-- The tag of a removed member written into the head note (R69, R77, R78). -/
def HandlerUnit.noteTag (h : HandlerUnit) (tag : Option Nat) : HandlerUnit :=
  { h with headNote := h.headNote.map fun n => { n with tag := tag } }

/-- The top member broken out or lifted out: removed, IN_TRANSFER, its tag in the head note (R8, R69). -/
def removeTopMember (s : State) : State :=
  (s.setRod s.rod.removeTop).setHandler (s.handler.noteTag s.rod.members.getLast?)

/-- The operation of the head. -/
def HandlerUnit.headOp (h : HandlerUnit) : Option Operation := h.queue.head?.map (·.op)

/-- The rod of the ADD ROD head joins the top of the string (R8). -/
def joinHeadRod (s : State) : State :=
  match s.handler.headOp with
  | some (.addRod tag) => s.setRod (s.rod.append tag)
  | some (.pullRod _) => s
  | some (.transferHold _) => s
  | none => s

/-! ## Holder inputs (R68) -/

/-- The level of a holder's input replaced. -/
def Pins.setClosed (p : Pins) (h : Holder) (b : Bool) : Pins :=
  match h with
  | .slips => { p with slipsClosed := b }
  | .elevator => { p with elevClosed := b }

/-- The run of a transfer toward a holder, at a change of that holder's input (R71). -/
def HandlerUnit.transferInput (h : HandlerUnit) (x : Holder) (run : Option Nat) : Option Transfer :=
  h.transfer.map fun t => if t.target = x then { t with runMs := run } else t

/-- A holder's input takes a level: its closed run and a transfer's run begin at 0 or end (R68, R71). -/
def takeLevel (x : Holder) (closed : Bool) (s : State) : State :=
  let run := if closed then some 0 else none
  (s.setPins (s.pins.setClosed x closed)).setHandler
    { s.handler.setRun x run with transfer := s.handler.transferInput x run }

/-- The first member is placed at the rise of SLIPS_CLOSED that ends PLACING, with no make-up wear (R76). Where the
change of the string extends the hole, it takes the wear of that drilling, though R9 says that the first member placed
gains nothing (DESIGN CHOICE, log 47). -/
def placeFirst (s : State) : State :=
  let t := joinHeadRod s
  runQueue (nextStage (stringChanged (t.setHandler { t.handler with carrier := some .slips })))

/-- A holder's input rises. -/
def holderRises (x : Holder) (s : State) : State :=
  let t := takeLevel x true s
  if x = .slips ∧ t.handler.headStage = some .placing then refreshPermits (placeFirst t) else refreshPermits t

/-- A carrier is lost while its input is low with no blanking and no determination running (R80). -/
def State.carrierLost (s : State) : Bool :=
  !s.rod.members.isEmpty && s.handler.determinationMs.isNone && !s.handler.holdFault && s.handler.blankingMs.isNone &&
    match s.handler.carrier with
    | some h => !s.pins.closed h
    | none => false

/-- The slips confirmed open end LIFTING OUT (R78). -/
def liftedOut (s : State) : State :=
  let t := removeTopMember s
  runQueue (nextStage (refreshPermits (stringChanged (t.setHandler { t.handler with carrier := none }))))

/-- The detection of a lost carrier, at an event at which a holder becomes confirmed open (R80). -/
def checkCarrier (s : State) : State := if s.carrierLost then latchHoldFault s else s

/-- The end of LIFTING OUT, at an event at which the slips become confirmed open (R78). -/
def checkLiftedOut (s : State) : State :=
  if s.handler.headStage = some .liftingOut ∧ s.confirmedOpen .slips then liftedOut s else s

/-- A holder's input falls. With no blanking running the holder becomes confirmed open at the fall (R68). -/
def holderFalls (x : Holder) (s : State) : State :=
  let t := takeLevel x false s
  let t := if t.handler.carrier = some x then checkCarrier t else t
  let t := if x = .slips then checkLiftedOut t else t
  refreshPermits t

/-- SLIPS_CLOSED or ELEV_CLOSED takes a level; a level it already has is no change (R68). -/
def holderChanges (x : Holder) (closed : Bool) (s : State) : State :=
  if s.pins.closed x = closed then s else if closed then holderRises x s else holderFalls x s

/-- HOLDER_INPUT_CHANGE (R68). -/
def execHolderInputChange (holder : Holder) (closed : Bool) (s : State) : Host.Outcome State Fault Refusal :=
  .next (whenRunning (holderChanges holder closed) s)

/-! ## WRENCH_DONE and RACKED -/

/-- WRENCH_DONE rises (R75, R77). Where the change of the string extends the hole, two points are the model's own. At a
break-out the remaining members take the wear of that drilling, by R5 and the first part of R9, though R9 says that
breaking out leaves wear unchanged (DESIGN CHOICE, log 47). At a joint the make-up wear is applied before the wear of
that drilling, which decides the last-worn tag where each wears out a rod and for which R10 gives no order (DESIGN
CHOICE, log 48). -/
def wrenchRises (s : State) : State :=
  let t := s.setPins { s.pins with wrenchDone := true }
  if t.handler.headStage = some .joining then runQueue (nextStage (stringChanged (makeUpWear (joinHeadRod t))))
  else if t.handler.headStage = some .unjoining then runQueue (nextStage (stringChanged (removeTopMember t)))
  else t

/-- WRENCH_DONE_RISE (R75). -/
def execWrenchDoneRise (s : State) : Host.Outcome State Fault Refusal := .next (whenRunning wrenchRises s)

/-- The rod in transfer seated in the head's target slot (R8). -/
def rackHeadRod (s : State) : State :=
  match s.handler.headOp, s.handler.headNote.bind (·.tag) with
  | some (.pullRod slot), some tag => s.setRod (s.rod.move tag (.rack slot))
  | _, _ => s

/-- RACKED rises (R77): the operation ends DONE. -/
def rackedRises (s : State) : State :=
  let t := s.setPins { s.pins with racked := true }
  if t.handler.headStage = some .racking then runQueue (endHead none (rackHeadRod t)) else t

/-- RACKED_RISE (R77). -/
def execRackedRise (s : State) : Host.Outcome State Fault Refusal := .next (whenRunning rackedRises s)

/-! ## Timers -/

/-- Blanking ends (R68): a low input becomes confirmed open, which the lost-carrier check and the end of LIFTING OUT
see in either order, and ROT_PERMIT may follow. -/
def blankingEnds (s : State) : State :=
  if s.handler.blankingMs.isSome then
    refreshPermits (anyOrder [checkCarrier, checkLiftedOut] (s.setHandler { s.handler with blankingMs := none }))
  else s

/-- BLANKING_END (R68). -/
def execBlankingEnd (s : State) : Host.Outcome State Fault Refusal := .next (whenRunning blankingEnds s)

/-- A transfer whose run has reached the transfer time completes; any other closed run that has reached it acts on the
release permits (R70, R71). -/
def runsReached (s : State) : State :=
  match s.handler.transfer with
  | some t =>
    if ((t.runMs.map fun ms => decide (s.config.transferTime ≤ ms))).getD false then completeTransfer t.target s
    else refreshPermits s
  | none => refreshPermits s

/-- A holder's runs brought to the transfer time (log 2). -/
def reachRun (x : Holder) (s : State) : State :=
  let time := s.config.transferTime
  s.setHandler { s.handler.setRun x ((s.handler.run x).map (max time)) with
    transfer := s.handler.transfer.map fun t => if t.target = x then { t with runMs := t.runMs.map (max time) } else t }

/-- CLOSED_RUN_REACHES_TRANSFER_TIME (R71). -/
def execClosedRunReachesTransferTime (holder : Holder) (s : State) : Host.Outcome State Fault Refusal :=
  .next (whenRunning (fun t => if (t.handler.run holder).isSome then runsReached (reachRun holder t) else t) s)

/-- A working stage times out (R79): with HANDLER_STRICT on HANDLER_FAULT latches. -/
def stageTimesOut (s : State) : State :=
  if s.handler.pastWaiting then
    if s.config.strict = 0 then abortWorking .timeout s
    else abortWorking .handlerFault (s.setHandler { s.handler with handlerFault := true })
  else s

/-- STAGE_TIMEOUT (R79). -/
def execStageTimeout (s : State) : Host.Outcome State Fault Refusal := .next (whenRunning stageTimesOut s)

/-! ## The all-stop chain (R83) -/

/-- ALLSTOP_N goes low. -/
def allstopFalls (s : State) : State :=
  if s.pins.allstopN then
    abortWorking .allStop (deriveActivity (refreshPermits (s.setPins { s.pins with allstopN := false })))
  else s

/-- ALLSTOP_FALL (R83). -/
def execAllstopFall (s : State) : Host.Outcome State Fault Refusal := .next (whenRunning allstopFalls s)

/-- ALLSTOP_N goes high. -/
def allstopRises (s : State) : State :=
  if s.pins.allstopN then s
  else runQueue (deriveActivity (refreshPermits (s.setPins { s.pins with allstopN := true })))

/-- ALLSTOP_RISE (R83). -/
def execAllstopRise (s : State) : Host.Outcome State Fault Refusal := .next (whenRunning allstopRises s)

/-! ## The determination (R87, R88) -/

/-- The carrier that the determination gives a string, absent where neither input is high (R87). -/
def determined (carrier : Option Holder) (p : Pins) : Option Holder :=
  match carrier with
  | some .slips => if p.slipsClosed then some .slips else if p.elevClosed then some .elevator else none
  | some .elevator => if p.elevClosed then some .elevator else if p.slipsClosed then some .slips else none
  | none => if p.slipsClosed then some .slips else if p.elevClosed then some .elevator else none

/-- The determination period ends (R87). -/
def determinationEnds (s : State) : State :=
  if s.handler.determinationMs.isSome then
    let t := s.setHandler { s.handler with determinationMs := none }
    if s.rod.members.isEmpty then refreshPermits (t.setHandler { t.handler with carrier := none })
    else
      match determined s.handler.carrier s.pins with
      | some h => refreshPermits (t.setHandler { t.handler with carrier := some h })
      | none => latchHoldFault t
  else s

/-- DETERMINATION_END (R87). -/
def execDeterminationEnd (s : State) : Host.Outcome State Fault Refusal := .next (whenRunning determinationEnds s)

end Sys2Proof.Machine
end

