-- ==== Sys2Proof/Machine/LiveEvents.lean ====
section
/-! DEFINITION. READ LIVE (R60) and the events of the hub line (R48 to R56). -/
namespace Sys2Proof.Machine

/-- The levels of the inputs without a row of their own, sampled at a request (R60, log 4). -/
def samplePins (wrenchDone racked rateKey : Bool) (s : State) : State :=
  s.setPins { s.pins with wrenchDone := wrenchDone, racked := racked, rateKey := rateKey }

/-- READ LIVE (R60). -/
def reqReadLive (wrenchDone racked rateKey : Bool) (args : List Byte) : State → State :=
  decoded (noArgs args) fun _ s =>
    let t := samplePins wrenchDone racked rateKey s
    done (readLiveBody t) t

/-- READ_LIVE. -/
def execReadLive (wrenchDone racked rateKey : Bool) (args : List Byte) (s : State) : Host.Outcome State Fault Refusal :=
  .next (runRequest 0x30 args (reqReadLive wrenchDone racked rateKey args) s)

/-- FRAME_ARRIVAL (R50). -/
def execFrameArrival (frame : BitVec 120) (s : State) : Host.Outcome State Fault Refusal :=
  .next (whenRunning (frameArrives frame) s)

/-- FRAME_CUT_SHORT (R49): a frame start during an incomplete frame (log 22). -/
def execFrameCutShort (s : State) : Host.Outcome State Fault Refusal := .next (whenRunning frameStarts s)

/-- FRAME_START (R48): a frame start while no frame is in progress (log 22). -/
def execFrameStart (s : State) : Host.Outcome State Fault Refusal := .next (whenRunning frameStarts s)

/-- LINK_LOSS (R55); the timer stands at its limit (log 2). -/
def reachLinkLoss (s : State) : State :=
  if s.hub.linkUp then linkLost (s.setHub { s.hub with linkMs := 100 }) else s

/-- LINK_LOSS. -/
def execLinkLoss (s : State) : Host.Outcome State Fault Refusal := .next (whenRunning reachLinkLoss s)

/-- STROKE_TIMEOUT (R56). -/
def execStrokeTimeout (pump : Pump) (s : State) : Host.Outcome State Fault Refusal :=
  .next (whenRunning (strokeTimedOut pump) s)

end Sys2Proof.Machine
end

