-- ==== Sys2Proof/Machine/Jobs.lean ====
section
/-! DEFINITION. The job requests (R145 to R149) and the events of the activity timers and the time base (R153 to
R155). -/
namespace Sys2Proof.Machine

/-! ## OPEN JOB -/

/-- A new job with its first interval (R30, R146). -/
def NewJob.job (x : NewJob) : Job where
  state     := .active
  customer  := x.customer
  site      := x.site
  bandWidth := x.bandWidth
  bit       := x.bit
  holeDepth := 0
  map       := [newInterval 0 0 1 x.bit]
  seconds   := ⟨0, 0, 0, 0, 0, 0, 0, 0⟩
  waived    := 0
  lines     := []
  total     := 0

/-- What OPEN JOB does to the balance, once the job is ACTIVE (R121). -/
def openBalance (s : State) : State :=
  if s.hub.pitLevel.stale then s.setCirc { s.circ with ref := { s.circ.ref with valid := false } }
  else rebase (recordBalance ⟨.openJob, .rebasedOnly, none, none, s.activeSlot, none⟩ s)

/-- The change of ACTIVE job handed on: the survey's inputs and the activity (R144). -/
def activeJobChanged (s : State) : State := deriveActivity (surveyRefresh s)

/-- A job opened in a slot (R146). -/
def openIn (slot : Nat) (x : NewJob) (s : State) : State :=
  activeJobChanged (openBalance (s.putJob slot (some x.job)))

/-- Page 0 of the job record of a slot as a reply (R145, R148). -/
def doneJob (slot : Nat) (s : State) : State := done (jobPage0 s slot (s.job.jobs.get slot)) s

/-- OPEN JOB (R146). -/
def reqOpenJob (args : List Byte) : State → State :=
  decoded (decodeOpenJob args) fun x s =>
    check .wrongState s.activeJob.isNone
      (check .wrongState s.rod.members.isEmpty fun s =>
        found .full s.job.jobs.freeSlot (fun slot =>
          check .full (decide (0 < s.poolFree)) fun s => doneJob slot (openIn slot x s)) s) s

/-- OPEN_JOB. -/
def execOpenJob (args : List Byte) (s : State) : Host.Outcome State Fault Refusal :=
  .next (runRequest 0x70 args (reqOpenJob args) s)

/-! ## COMPLETE JOB -/

/-- What COMPLETE JOB does to the sweep state (R139), before the job stops being ACTIVE so that the record names its
slot. -/
def completeSweepState (s : State) : State :=
  let t := if s.sweep.owed then dischargeSweep .endedJobComplete s else s
  t.setSweep { t.sweep with counter := 0 }

/-- The ACTIVE job ended (R147): the booking, the sweep state, the state change, the rebase unless the booking was
skipped, and the hand-on. -/
def completeActive (slot : Nat) (s : State) : State :=
  let t := completeSweepState (book .complete none s)
  let t := t.modifyJob slot fun j => { j with state := .complete }
  let t := if s.hub.pitLevel.stale then t else rebase t
  activeJobChanged t

/-- COMPLETE JOB (R147). -/
def reqCompleteJob (args : List Byte) : State → State :=
  decoded (noArgs args) fun _ s =>
    found .noJob s.activeJob (fun a =>
      check .wrongState s.rod.members.isEmpty
        (check .wrongState s.handler.queue.isEmpty fun s => doneJob a.1 (completeActive a.1 s))) s

/-- COMPLETE_JOB. -/
def execCompleteJob (args : List Byte) (s : State) : Host.Outcome State Fault Refusal :=
  .next (runRequest 0x71 args (reqCompleteJob args) s)

/-! ## LOOK UP JOB -/

/-- A slot removed from the unpriced set (R174). -/
def leaveUnpriced (slot : Nat) (s : State) : State :=
  s.setPricing { s.pricing with unpriced := s.pricing.unpriced.filter fun n => n != slot }

/-- A page of the job record (R148). -/
def jobPage (s : State) (page slot : Nat) (j : Option Job) : List Byte :=
  if page = 0 then jobPage0 s slot j else jobPage1 s slot j

/-- LOOK UP JOB (R148). Slot 0 names the ACTIVE job. -/
def reqLookUpJob (args : List Byte) : State → State :=
  decoded (decodeLookUpJob args) fun x s =>
    if x.1 = 0 then
      done (jobPage s x.2 s.activeSlot (s.activeJob.map (·.2))) (leaveUnpriced s.activeSlot s)
    else
      found .notFound (s.job.jobs.get x.1) (fun j t =>
        done (jobPage t x.2 x.1 (some j)) (leaveUnpriced x.1 t)) s

/-- LOOK_UP_JOB. -/
def execLookUpJob (args : List Byte) (s : State) : Host.Outcome State Fault Refusal :=
  .next (runRequest 0x72 args (reqLookUpJob args) s)

/-! ## RETIRE JOB -/

/-- The level of the keyswitch sampled at a request (R161, log 4). -/
def sampleKey (key : Bool) (s : State) : State := s.setPins { s.pins with rateKey := key }

/-- The conditions of RETIRE JOB (R149): the refusal for a job's state and the keyswitch. -/
def retireRefusal (key : Bool) (j : Job) : Option ReplyCode :=
  match j.state with
  | .active => some .wrongState
  | .priced => some .wrongState
  | .complete => if key then none else some .locked
  | .settled => none

/-- A slot freed (R149): its intervals, its lines and its place in the unpriced set. -/
def freeSlot (slot : Nat) (s : State) : State := poolRefresh (leaveUnpriced slot (s.putJob slot none))

/-- RETIRE JOB (R149); the reply carries the job record as it stood. -/
def reqRetireJob (key : Bool) (args : List Byte) : State → State :=
  decoded (decodeJobSlot args) fun slot s =>
    found .notFound (s.job.jobs.get slot) (fun j t =>
      match retireRefusal key j with
      | some code => refuse code t
      | none => done (jobPage0 t slot (some j)) (freeSlot slot t)) (sampleKey key s)

/-- RETIRE_JOB. -/
def execRetireJob (key : Bool) (args : List Byte) (s : State) : Host.Outcome State Fault Refusal :=
  .next (runRequest 0x73 args (reqRetireJob key args) s)

/-! ## The idle family (R153) -/

/-- The idle timer reaches the idle grace: IDLE steps to STANDBY, whose timer starts. -/
def idleExpires (s : State) : State := if s.job.activity = .idle then setActivity .standby s else s

/-- IDLE_GRACE_EXPIRY (R153). -/
def execIdleGraceExpiry (s : State) : Host.Outcome State Fault Refusal := .next (whenRunning idleExpires s)

/-- The standby timer reaches the standby limit: STANDBY steps to SHUTDOWN. -/
def standbyExpires (s : State) : State := if s.job.activity = .standby then setActivity .shutdown s else s

/-- STANDBY_LIMIT_EXPIRY (R153). -/
def execStandbyLimitExpiry (s : State) : Host.Outcome State Fault Refusal := .next (whenRunning standbyExpires s)

/-! ## The second mark (R154, R155) -/

/-- One second added to the counter of an activity (R154). -/
def Seconds.add (x : Seconds) : Activity → Seconds
  | .down => { x with down := satAdd max32 x.down 1 }
  | .drilling => { x with drilling := satAdd max32 x.drilling 1 }
  | .reaming => { x with reaming := satAdd max32 x.reaming 1 }
  | .tripping => { x with tripping := satAdd max32 x.tripping 1 }
  | .circulating => { x with circulating := satAdd max32 x.circulating 1 }
  | .idle => { x with idle := satAdd max32 x.idle 1 }
  | .standby => { x with standby := satAdd max32 x.standby 1 }
  | .shutdown => { x with shutdown := satAdd max32 x.shutdown 1 }

/-- A second accrued to a job, and while DRILLING to its deepest interval (R154, R155). -/
def Job.accrue (a : Activity) (j : Job) : Job :=
  { j with
    seconds := j.seconds.add a
    map := if a = .drilling then modifyDeepest (fun i => { i with drillSec := satAdd max32 i.drillSec 1 }) j.map else j.map }

/-- A second mark: accrual, then the re-derivation (R154). -/
def secondPasses (s : State) : State :=
  let t := s.modifyActive (Job.accrue s.job.activity)
  deriveActivity (t.setJob { t.job with secondMs := 0 })

/-- SECOND_MARK (R154). -/
def execSecondMark (s : State) : Host.Outcome State Fault Refusal := .next (whenRunning secondPasses s)

end Sys2Proof.Machine
end

