-- ==== Sys2Proof/Machine/ConfigItems.lean ====
section
/-! DEFINITION. The configuration items (R190, R204) and what a write does at its event (R192 and each item's owning
chapter). -/
namespace Sys2Proof.Machine

/-- A configuration item: its bounds, default and value (R190). -/
structure Item where
  lo      : Nat
  hi      : Nat
  default : Nat
  value   : Nat
deriving DecidableEq, Repr

/-- The cause whose mask an item is: item 100 plus the cause number (R204). -/
def maskCause (item : Nat) : Option Cause := if 100 < item then Cause.all[item - 101]? else none

/-- Whether a cause cannot be masked (R185). -/
def Cause.unmaskable (c : Cause) : Bool := c == .holdFault || c == .allStop

/-- A mask as an item (R190). -/
def maskItem (c : ConfigStore) (x : Cause) : Item := ⟨0, if x.unmaskable then 0 else 1, 0, if c.isMasked x then 1 else 0⟩

/-- The item of a number, absent for a number not in the table of R204. -/
def ConfigStore.item (c : ConfigStore) (n : Nat) : Option Item :=
  match n with
  | 10 => some ⟨0, 100, 2, c.makeUpWear⟩
  | 11 => some ⟨0, 2000, 150, c.blockWeight⟩
  | 12 => some ⟨5, 2000, 100, c.weightMargin⟩
  | 30 => some ⟨500, 10000, 2000, c.strokeTimeout⟩
  | 31 => some ⟨1, 60, 5, c.rotThreshold⟩
  | 40 => some ⟨100, 5000, 1000, c.transferTime⟩
  | 41 => some ⟨2, 60, 20, c.transferLimit⟩
  | 42 => some ⟨50, 2000, 300, c.blankingTime⟩
  | 43 => some ⟨5, 120, 30, c.wrenchLimit⟩
  | 44 => some ⟨5, 300, 90, c.rackLimit⟩
  | 45 => some ⟨0, 1, 1, c.strict⟩
  | 50 => some ⟨100, 40000, 18500, c.dispA⟩
  | 51 => some ⟨50, 100, 95, c.effA⟩
  | 52 => some ⟨100, 40000, 18500, c.dispB⟩
  | 53 => some ⟨50, 100, 95, c.effB⟩
  | 60 => some ⟨50, 2000, 800, c.pitArea⟩
  | 61 => some ⟨0, 600, 60, c.settleTime⟩
  | 62 => some ⟨50, 5000, 400, c.lossThreshold⟩
  | 63 => some ⟨50, 5000, 300, c.gainThreshold⟩
  | 64 => some ⟨10, 1000, 100, c.balanceHyst⟩
  | 65 => some ⟨100, 2000, 400, c.lowPit⟩
  | 66 => some ⟨20, 500, 100, c.pitHyst⟩
  | 67 => some ⟨1000, 2400, 1080, c.mudDensity⟩
  | 70 => some ⟨1000, 60000, 18000, c.sweepSpacing⟩
  | 71 => some ⟨100, 300, 150, c.sweepFactor⟩
  | 72 => some ⟨0, 600, 180, c.sweepHold⟩
  | 80 => some ⟨50, 2000, 300, c.onBottomTol⟩
  | 81 => some ⟨1, 120, 15, c.idleGrace⟩
  | 82 => some ⟨1, 24, 10, c.standbyLimit⟩
  | n => (maskCause n).map (maskItem c)

/-- The masked causes with one mask set or clear, in the order of their numbers. -/
def setMask (masked : List Cause) (x : Cause) (on : Bool) : List Cause :=
  Cause.all.filter fun c => if c = x then on else masked.contains c

/-- The store with an item's value replaced (R192). -/
def ConfigStore.write (c : ConfigStore) (n v : Nat) : ConfigStore :=
  match n with
  | 10 => { c with makeUpWear := v }
  | 11 => { c with blockWeight := v }
  | 12 => { c with weightMargin := v }
  | 30 => { c with strokeTimeout := v }
  | 31 => { c with rotThreshold := v }
  | 40 => { c with transferTime := v }
  | 41 => { c with transferLimit := v }
  | 42 => { c with blankingTime := v }
  | 43 => { c with wrenchLimit := v }
  | 44 => { c with rackLimit := v }
  | 45 => { c with strict := v }
  | 50 => { c with dispA := v }
  | 51 => { c with effA := v }
  | 52 => { c with dispB := v }
  | 53 => { c with effB := v }
  | 60 => { c with pitArea := v }
  | 61 => { c with settleTime := v }
  | 62 => { c with lossThreshold := v }
  | 63 => { c with gainThreshold := v }
  | 64 => { c with balanceHyst := v }
  | 65 => { c with lowPit := v }
  | 66 => { c with pitHyst := v }
  | 67 => { c with mudDensity := v }
  | 70 => { c with sweepSpacing := v }
  | 71 => { c with sweepFactor := v }
  | 72 => { c with sweepHold := v }
  | 80 => { c with onBottomTol := v }
  | 81 => { c with idleGrace := v }
  | 82 => { c with standbyLimit := v }
  | n =>
    match maskCause n with
    | some x => { c with masked := setMask c.masked x (v != 0) }
    | none => c

/-! ## What a write does in its owning block -/

/-- A pump PUMPING whose timer stands at or beyond a timeout becomes STOPPED (R56). -/
def PumpLine.limit (timeout : Nat) (l : PumpLine) : PumpLine := if timeout ≤ l.timerMs then l.stop else l

/-- The pumps against a new stroke timeout (R56). -/
def timeoutWritten (s : State) : State :=
  handOnChanges s 0 0 false false false (s.setHub { s.hub with
    pumpA := s.hub.pumpA.limit s.config.strokeTimeout
    pumpB := s.hub.pumpB.limit s.config.strokeTimeout })

/-- The rotating state against a new threshold (R58), `before` holding the old one. -/
def rotationWritten (before s : State) : State := handOnChanges before 0 0 false false false s

/-- Whether the head's stage timer has reached its limit (R79). -/
def State.stageDue (s : State) : Bool :=
  match s.handler.headStage with
  | some st => st.working && decide (s.config.stageLimit st ≤ s.handler.stageMs)
  | none => false

/-- A running stage timer at or beyond a new limit times out (R86). -/
def limitWritten (s : State) : State := if s.stageDue then stageTimesOut s else s

/-- Whether the blanking timer has reached the blanking time (R68). -/
def State.blankingDue (s : State) : Bool :=
  (s.handler.blankingMs.map fun ms => decide (s.config.blankingTime ≤ ms)).getD false

/-- Whether the determination period has run for one blanking time (R87). -/
def State.determinationDue (s : State) : Bool :=
  (s.handler.determinationMs.map fun ms => decide (s.config.blankingTime ≤ ms)).getD false

/-- Blanking, and the determination that lasts one blanking time, against a new blanking time (R86, log 11). -/
def blankingWritten (s : State) : State :=
  let t := if s.determinationDue then determinationEnds s else s
  if t.blankingDue then blankingEnds t else t

/-- A new settle time: a balance that is settled by it is handed to the handler (R111). -/
def settleWritten (before s : State) : State := if !before.settled && s.settled then runQueue s else s

/-- A new low pit level or pit hysteresis re-evaluates PIT_LOW while the pit level is fresh (R115). -/
def pitWritten (s : State) : State := if s.hub.pitLevel.stale then s else evaluatePitLow s

/-- Whether the hold timer has reached the hold time (R134). -/
def State.holdDue (s : State) : Bool :=
  ((s.sweep.current.bind (·.holdMs)).map fun ms => decide (s.config.sweepHold * 1000 ≤ ms)).getD false

/-- A hold timer at or beyond a new hold time expires (R134). -/
def holdWritten (s : State) : State := if s.holdDue then holdExpires s else s

/-- Whether the idle timer has reached the idle grace (R153). -/
def State.idleDue (s : State) : Bool :=
  s.job.activity == .idle && decide (s.config.idleGrace * 60000 ≤ s.job.idleMs)

/-- Whether the standby timer has reached the standby limit (R153). -/
def State.standbyDue (s : State) : Bool :=
  s.job.activity == .standby && decide (s.config.standbyLimit * 3600000 ≤ s.job.standbyMs)

/-- The act of the owning block on a new value of an item, `before` being the state before the write (R192). The
items not named here are read where they are used. -/
def itemWritten (n : Nat) (before s : State) : State :=
  match n with
  | 30 => timeoutWritten s
  | 31 => rotationWritten before s
  | 40 => runsReached s
  | 41 => limitWritten s
  | 42 => blankingWritten s
  | 43 => limitWritten s
  | 44 => limitWritten s
  | 60 => s.setCirc { s.circ with ref := { s.circ.ref with valid := false } }
  | 61 => settleWritten before s
  | 65 => pitWritten s
  | 66 => pitWritten s
  | 70 => crossSpacings s
  | 72 => holdWritten s
  | 80 => deriveActivity s
  | 81 => if s.idleDue then idleExpires s else s
  | 82 => if s.standbyDue then standbyExpires s else s
  | _ => s

/-- An item written at its event; the value it already holds changes nothing (R192). -/
def writeItem (n v : Nat) (s : State) : State :=
  if (s.config.item n).map (·.value) = some v then s else itemWritten n s (s.setConfig (s.config.write n v))

/-- What READ CONFIG reports of an item (R191). -/
def itemBody (n : Nat) (x : Item) : List Byte := be 1 n ++ be 4 x.value ++ be 4 x.lo ++ be 4 x.hi ++ be 4 x.default

/-- READ CONFIG (R191). -/
def reqReadConfig (args : List Byte) : State → State :=
  decoded (decodeReadConfig args) fun n s => found .notFound (s.config.item n) (fun x => done (itemBody n x)) s

/-- READ_CONFIG. -/
def execReadConfig (args : List Byte) (s : State) : Host.Outcome State Fault Refusal :=
  .next (runRequest 0x03 args (reqReadConfig args) s)

/-- SET CONFIG (R192): the value clamped to the item's bounds and written, and what READ CONFIG would report then. -/
def reqSetConfig (args : List Byte) : State → State :=
  decoded (decodeSetConfig args) fun x s =>
    found .notFound (s.config.item x.1) (fun i s =>
      let v := clamp i.lo i.hi x.2
      doneClamped (v != x.2) (itemBody x.1 { i with value := v }) (writeItem x.1 v s)) s

/-- SET_CONFIG. -/
def execSetConfig (args : List Byte) (s : State) : Host.Outcome State Fault Refusal :=
  .next (runRequest 0x04 args (reqSetConfig args) s)

end Sys2Proof.Machine
end

