-- ==== Sys2Proof/Machine/Handler.lean ====
section
/-! DEFINITION. The handler requests (R64 to R66, R84, R85). -/
namespace Sys2Proof.Machine

/-! ## Accepting an entry -/

/-- The entry number after `n`: from 255 to 1 (R62). -/
def nextEntryNum (n : Nat) : Nat := if n = 255 then 1 else n + 1

/-- An entry accepted at the tail (R62): it takes the next number; into an empty queue it becomes head at once (R63).
The reservation is the caller's. -/
def enqueue (op : Operation) (s : State) : State :=
  let t := s.setHandler { s.handler with
    queue := s.handler.queue ++ [⟨s.handler.nextNum, op, .queued, []⟩]
    nextNum := nextEntryNum s.handler.nextNum }
  if s.handler.queue.isEmpty then runQueue t else t

/-- The reply to an accepted entry: its number and its position (R64 to R66). -/
def accept (op : Operation) (u : RodUnit) (s : State) : State :=
  done (be 1 s.handler.nextNum ++ be 1 (s.handler.queue.length + 1)) (enqueue op (s.setRod u))

/-- Whether the queue has room (R62). -/
def HandlerUnit.hasRoom (h : HandlerUnit) : Bool := decide (h.queue.length < 4)

/-- The entries of a kind in the queue. -/
def HandlerUnit.countKind (h : HandlerUnit) (k : OpKind) : Nat := (h.queue.filter fun e => e.op.kind == k).length

/-! ## ADD ROD -/

/-- A rod reserved by an entry (R7). -/
def RodUnit.reserveRod (u : RodUnit) (tag num : Nat) : RodUnit :=
  u.modify tag fun r => { r with reservation := some num }

/-- ADD ROD (R64). -/
def reqAddRod (args : List Byte) : State → State :=
  decoded (decodeTag args) fun tag s =>
    check .full s.handler.hasRoom (fun s =>
      check .noJob s.activeJob.isSome (fun s =>
        found .notFound (s.rod.find tag) (fun r =>
          check .inUse r.reservation.isNone
            (check .wrongState r.racked
              (check .wrongState (r.status == .inService)
                (check .full (decide (s.rod.members.length + s.handler.countKind .addRod < 200))
                  (accept (.addRod tag) (s.rod.reserveRod tag s.handler.nextNum)))))) s) s) s

/-- ADD_ROD. -/
def execAddRod (args : List Byte) (s : State) : Host.Outcome State Fault Refusal :=
  .next (runRequest 0x40 args (reqAddRod args) s)

/-! ## PULL ROD -/

/-- A slot reserved by an entry (R7). -/
def RodUnit.reserveSlot (u : RodUnit) (slot num : Nat) : RodUnit := { u with slotRes := u.slotRes ++ [(slot, num)] }

/-- PULL ROD (R65). -/
def reqPullRod (args : List Byte) : State → State :=
  decoded (decodePullRod args) fun slot s =>
    check .full s.handler.hasRoom
      (check .wrongState (!s.rod.members.isEmpty)
        (check .wrongState (s.handler.countKind .pullRod != s.rod.members.length)
          (check .inUse (s.rod.slotOpen slot)
            (accept (.pullRod slot) (s.rod.reserveSlot slot s.handler.nextNum))))) s

/-- PULL_ROD. -/
def execPullRod (args : List Byte) (s : State) : Host.Outcome State Fault Refusal :=
  .next (runRequest 0x41 args (reqPullRod args) s)

/-! ## TRANSFER HOLD -/

/-- TRANSFER HOLD (R66). -/
def reqTransferHold (args : List Byte) : State → State :=
  decoded (decodeTransferHold args) fun target s =>
    check .full s.handler.hasRoom
      (check .wrongState (!s.rod.members.isEmpty) (accept (.transferHold target) s.rod)) s

/-- TRANSFER_HOLD. -/
def execTransferHold (args : List Byte) (s : State) : Host.Outcome State Fault Refusal :=
  .next (runRequest 0x42 args (reqTransferHold args) s)

/-! ## CANCEL HANDLER -/

/-- The QUEUED entries removed, with their reservations (R84). -/
def dropQueued (s : State) : State :=
  (s.setRod (s.handler.queue.foldl (fun u e => u.release e.num) s.rod)).setHandler { s.handler with queue := [] }

/-- CANCEL HANDLER (R84). -/
def reqCancelHandler (args : List Byte) : State → State :=
  decoded (noArgs args) fun _ s =>
    done (be 1 s.handler.queue.length) (dropQueued (endHead (some .cancelled) s))

/-- CANCEL_HANDLER. -/
def execCancelHandler (args : List Byte) (s : State) : Host.Outcome State Fault Refusal :=
  .next (runRequest 0x43 args (reqCancelHandler args) s)

/-! ## READ HANDLER -/

/-- READ HANDLER (R85): it clears HANDLER_DONE and changes nothing else. -/
def reqReadHandler (args : List Byte) : State → State :=
  decoded (noArgs args) fun _ s =>
    done (readHandlerBody s) (s.setHandler { s.handler with handlerDone := false })

/-- READ_HANDLER. -/
def execReadHandler (args : List Byte) (s : State) : Host.Outcome State Fault Refusal :=
  .next (runRequest 0x44 args (reqReadHandler args) s)

end Sys2Proof.Machine
end

