-- ==== Sys2Proof/Machine/Port.lean ====
section
/-! DEFINITION. READ ATTENTION and CLEAR FAULTS (R187 to R189), the request that names no request (R184), and the
exchanges of the record port (R179 to R183). -/
namespace Sys2Proof.Machine

/-! ## Attention requests -/

/-- READ ATTENTION's clearing: ROD_WORN, POWER_ON with its mark, PORT_ERROR and the port counts (R187). -/
def clearNotices (s : State) : State :=
  let t := s.setRod { s.rod with rodWorn := false }
  let t := t.setPower { t.power with startMark := .none }
  t.setPort { t.port with portError := false, errors := 0, lastKind := .none, discards := 0 }

/-- READ ATTENTION (R187): the set as it stands before clearing. -/
def reqReadAttention (args : List Byte) : State → State :=
  decoded (noArgs args) fun _ s => done (attentionBody s) (clearNotices s)

/-- READ_ATTENTION. -/
def execReadAttention (args : List Byte) (s : State) : Host.Outcome State Fault Refusal :=
  .next (runRequest 0x01 args (reqReadAttention args) s)

/-- CLEAR FAULTS (R189). -/
def reqClearFaults (args : List Byte) : State → State :=
  decoded (noArgs args) fun _ s =>
    let t := clearFaultLatches s
    done (clearFaultsBody t) t

/-- CLEAR_FAULTS. -/
def execClearFaults (args : List Byte) (s : State) : Host.Outcome State Fault Refusal :=
  .next (runRequest 0x02 args (reqClearFaults args) s)

/-- UNKNOWN_REQUEST (R184). A code that does name a request, or 0x00, makes this command no event of the spec, and
the model refuses it (log 24). -/
def execUnknownRequest (code : Byte) (args : List Byte) (s : State) : Host.Outcome State Fault Refusal :=
  if namesNoRequest code then .next (runRequest code args (refuse .unknownRequest) s) else .refused .codeNamesARequest

/-! ## Exchanges -/

/-- The held reply as it is read: NOT_READY while the engine is BUSY (R182). -/
def PortUnit.readReply (p : PortUnit) : Reply := if p.busy then ⟨.notReady, []⟩ else p.held

/-- PSEL_N falls: the snapshot is made (R179). -/
def exchangeBegins (s : State) : State :=
  match s.port.exchange with
  | .none => s.setPort { s.port with exchange := .open s.summary s.port.readReply }
  | .ignored => s
  | .open _ _ => s

/-- EXCHANGE_BEGIN (R179). -/
def execExchangeBegin (s : State) : Host.Outcome State Fault Refusal := .next (whenRunning exchangeBegins s)

/-- What the bytes of an exchange are (R180). -/
inductive Received where
  | nothing
  | malformed (kind : MalformedKind)
  | request (code : Byte) (args : List Byte)
deriving DecidableEq, Repr

/-- The classification of R180, in its order. -/
def classify (bytes : List Byte) (partialBits : Nat) : Received :=
  if partialBits ≠ 0 then .malformed .partialByte
  else
    match bytes with
    | [] => .nothing
    | code :: rest =>
      if code = 0 then .nothing
      else
        match rest with
        | [] => .malformed .short
        | n :: args =>
          if maxArgs < n.toNat then .malformed .lengthRange
          else if args.length < n.toNat then .malformed .short
          else if n.toNat < args.length then .malformed .long
          else .request code args

/-- A malformed exchange: PORT_ERROR, the count and the kind (R180, R188). -/
def malformedExchange (kind : MalformedKind) (s : State) : State :=
  s.setPort { s.port with portError := true, errors := satAdd 255 s.port.errors 1, lastKind := kind }

/-- Whether a status summary shows the engine BUSY (R186). -/
def showsBusy (summary : Byte) : Bool := summary.toNat / 64 % 2 == 1

/-- The acceptance of a request (R181): the engine becomes BUSY. A READ CIRCULATION then asks for its survey at this
event (R99, R104; 05_circulation_volumes.md, second worked example), or with argument bytes is refused at once (R104);
every other request changes its records at its completion (log 1). -/
def acceptRequest (code : Byte) (args : List Byte) (s : State) : State :=
  let t := s.setPort { s.port with engine := .accepted code args 0 }
  if code = 0x51 then
    match args with
    | [] => askReadSurvey t
    | _ :: _ => refuse .outOfRange t
  else t

/-- A request exchange: accepted if its summary showed the engine not busy, else discarded for BUSY (R181, R183). -/
def offer (summary : Byte) (code : Byte) (args : List Byte) (s : State) : State :=
  if !showsBusy summary && !s.port.busy then acceptRequest code args s else discard s

/-- What an exchange does at its end (R180). -/
def received (summary : Byte) (r : Received) (s : State) : State :=
  match r with
  | .nothing => s
  | .malformed kind => malformedExchange kind s
  | .request code args => offer summary code args s

/-- No exchange is in progress. -/
def closeExchange (s : State) : State := s.setPort { s.port with exchange := .none }

/-- PSEL_N rises (R180, R193). -/
def exchangeEnds (bytes : List Byte) (partialBits : Nat) (s : State) : State :=
  match s.port.exchange with
  | .none => s
  | .ignored => closeExchange s
  | .open summary _ => closeExchange (received summary (classify bytes partialBits) s)

/-- EXCHANGE_END (R180). -/
def execExchangeEnd (bytes : List Byte) (partialBits : Nat) (s : State) : Host.Outcome State Fault Refusal :=
  .next (whenRunning (exchangeEnds bytes partialBits) s)

end Sys2Proof.Machine
end

