-- ==== Sys2Proof/Machine/Power.lean ====
section
/-! DEFINITION. The wells, the start, the retention monitor and the reset line (R194 to R199). -/
namespace Sys2Proof.Machine

/-! ## The start -/

/-- A rod record at a warm start: its reservation released, an IN_TRANSFER rod UNCERTAIN (R23). -/
def RodRecord.restart (r : RodRecord) : RodRecord :=
  { r with reservation := none, location := if r.location = .inTransfer then .uncertain else r.location }

/-- The rod inventory unit after a warm start (R23, R6): both bit depths at the lesser of string length and hole
depth, or 0 with an empty string. -/
def RodUnit.restart (u : RodUnit) (hole : Nat) : RodUnit :=
  let depth := if u.members.isEmpty then 0 else min u.stringLength hole
  { rods := u.rods.map RodRecord.restart, slotRes := [], members := u.members, rawDepth := depth, repDepth := depth,
    lastWorn := none, rodWorn := false }

/-- The main well at its start values, the backed well kept: what a warm start leaves (R23, R47, R61, R87, R106,
R125, R142, R157, R178, R193). The activity is DOWN with ALLSTOP_N low and IDLE otherwise (R157). -/
def warmStart (l : StartLevels) (s : State) : State where
  rod       := s.rod.restart s.holeDepth
  bore      := .start
  hub       := .start
  handler   := .start s.handler.carrier s.handler.headNote l.slipsClosed l.elevClosed
  circ      := .start s.circ.ref
  sweep     := .start s.sweep.counter s.sweep.owed s.sweep.overdue
  job       := .start s.job.jobs l.allstopN
  pricing   := .start s.pricing.rates
  port      := .start l.pselLow
  config    := s.config
  power     := ⟨.running, false, .warm, none⟩
  pins      := .ofLevels l
  pending   := s.pending
  freeCount := s.freeCount

/-- What a cold start leaves (R24, R47, R61, R88, R106, R125, R142, R157, R178, R193, R199). The activity is IDLE
whatever ALLSTOP_N, as R157 says of a cold start, until its first re-derivation (DEDUCED, log 38). -/
def coldStart (l : StartLevels) (s : State) : State where
  rod       := .cold
  bore      := .start
  hub       := .start
  handler   := .start none none l.slipsClosed l.elevClosed
  circ      := .start ⟨false, 0, 0, 0⟩
  sweep     := .start 0 false false
  job       := .start .empty true
  pricing   := .start PricingUnit.noRates
  port      := .start l.pselLow
  config    := .defaults
  power     := ⟨.running, false, .cold, none⟩
  pins      := .ofLevels l
  pending   := s.pending
  freeCount := s.freeCount

/-- A start: cold if the retention-lost latch is set, warm otherwise (R195, R196). A part that runs makes no start. -/
def starts (l : StartLevels) (s : State) : State :=
  if s.running then s
  else if s.power.retentionLost then coldStart l s else warmStart l s

/-- START (R195). -/
def execStart (levels : StartLevels) (s : State) : Host.Outcome State Fault Refusal := .next (starts levels s)

/-! ## Main power -/

/-- The main well lost (R194, R195), the backed well kept. Nothing can show what a lost main well holds, and the next
start sets it all (log 23): the model puts it at its start values with every permit withdrawn, no attention notice
and no determination. -/
def loseMainWell (s : State) : State where
  rod       := { s.rod with rawDepth := 0, repDepth := 0, lastWorn := none, rodWorn := false }
  bore      := .start
  hub       := .start
  handler   := { HandlerUnit.start s.handler.carrier none false false with
                 determinationMs := none, headNote := s.handler.headNote }
  circ      := { CircUnit.start s.circ.ref with ref := s.circ.ref }
  sweep     := .start s.sweep.counter s.sweep.owed s.sweep.overdue
  job       := .start s.job.jobs true
  pricing   := .start s.pricing.rates
  port      := .start false
  config    := s.config
  power     := { s.power with startMark := .none, rstLowMs := none }
  pins      := s.pins
  pending   := s.pending
  freeCount := s.freeCount

/-- Main power becomes absent (R195); with VBAK already low the retention-lost latch is set at this event (R196). -/
def powerLost (s : State) : State :=
  if s.power.phase = .off then s
  else
    let t := loseMainWell s
    t.setPower { t.power with phase := .off, retentionLost := s.power.retentionLost || s.pins.vbakLow }

/-- MAIN_POWER_LOSS (R195). -/
def execMainPowerLoss (s : State) : Host.Outcome State Fault Refusal := .next (powerLost s)

/-- MAIN_POWER_RETURN_IN_RESET (R195): the part is held in reset until RST_N rises. VBAK keeps the level last held, so
BACKUP_LOW stands as that gives it until VBAK crosses the threshold or START samples it (DESIGN CHOICE, log 45). -/
def execMainPowerReturnInReset (s : State) : Host.Outcome State Fault Refusal :=
  .next (if s.power.phase = .off then s.setPower { s.power with phase := .inReset } else s)

/-! ## The retention monitor -/

/-- RETENTION_LOST_SET (R196): VBAK falls below the threshold while main power is absent. -/
def execRetentionLostSet (s : State) : Host.Outcome State Fault Refusal :=
  .next (if s.power.phase = .off then
    (s.setPower { s.power with retentionLost := true }).setPins { s.pins with vbakLow := true } else s)

/-- BACKUP_LOW_CHANGE (R197): VBAK crosses the threshold while main power is present. -/
def execBackupLowChange (low : Bool) (s : State) : Host.Outcome State Fault Refusal :=
  .next (if s.power.phase = .off then s else s.setPins { s.pins with vbakLow := low })

/-! ## The reset line -/

/-- RST_N falls: its low time is measured (R198). -/
def lineFalls (s : State) : State :=
  if s.power.rstLowMs.isNone then s.setPower { s.power with rstLowMs := some 0 } else s

/-- RESET_LINE_FALL (R198). -/
def execResetLineFall (s : State) : Host.Outcome State Fault Refusal := .next (whenRunning lineFalls s)

/-- RST_N rises after `lowMs` of low time, the part running on: a fault clear from 1 ms (R198, log 26). -/
def lineRises (lowMs : Nat) (s : State) : State :=
  if lowMs < 200 then
    let t := s.setPower { s.power with rstLowMs := none }
    if lowMs = 0 then t else clearFaultLatches t
  else s

/-- RST_FAULT_CLEAR_PULSE (R198). -/
def execRstFaultClearPulse (lowMs : Nat) (s : State) : Host.Outcome State Fault Refusal :=
  .next (whenRunning (lineRises lowMs) s)

/-- The part enters reset (R198): permits withdrawn, and the engine, the held reply, a survey, a pricing and an
exchange lost. -/
def entersReset (s : State) : State :=
  let t := s.setHandler { s.handler with slipsRel := false, elevRel := false, rotPermit := false, wrenchPermit := false }
  let t := t.setSurvey none
  let t := t.setPricing { t.pricing with working := none }
  let t := t.setPort { t.port with engine := .idle, held := ⟨.noneYet, []⟩, exchange := .none }
  t.setPower { t.power with phase := .inReset, rstLowMs := none }

/-- RESET_ENTRY (R198). -/
def execResetEntry (s : State) : Host.Outcome State Fault Refusal := .next (whenRunning entersReset s)

end Sys2Proof.Machine
end

