-- ==== Sys2Proof/Machine/Rates.lean ====
section
/-! DEFINITION. The rate requests (R162 to R166), pricing (R167 to R174) and the invoice requests (R175 to R177). -/
namespace Sys2Proof.Machine

/-! ## The rate table -/

/-- The valid entry of an index (R159). -/
def PricingUnit.entry (p : PricingUnit) (index : Nat) : Option RateEntry := (p.rates[index]?).join

/-- An entry replaced; none makes it invalid (R159). -/
def setEntry (index : Nat) (e : Option RateEntry) (s : State) : State :=
  s.setPricing { s.pricing with rates := s.pricing.rates.set index e }

/-- An entry replaced, and the reply carries it as it stands after the request (R162). -/
def doneRate (index : Nat) (e : RateEntry) (s : State) : State :=
  let t := setEntry index (some e) s
  done (rateBody t index e) t

/-- ENTER RATE (R163). -/
def reqEnterRate (key : Bool) (args : List Byte) : State → State :=
  decoded (decodeRate args) fun x s =>
    check .locked key
      (fun s => check .inUse (s.pricing.entry x.1).isNone (doneRate x.1 x.2) s) (sampleKey key s)

/-- ENTER_RATE. -/
def execEnterRate (key : Bool) (args : List Byte) (s : State) : Host.Outcome State Fault Refusal :=
  .next (runRequest 0x80 args (reqEnterRate key args) s)

/-- AMEND RATE (R164). -/
def reqAmendRate (key : Bool) (args : List Byte) : State → State :=
  decoded (decodeRate args) fun x s =>
    check .locked key
      (fun s => found .notFound (s.pricing.entry x.1) (fun _ =>
        check .inUse (s.useCount x.1 == 0) (doneRate x.1 x.2)) s) (sampleKey key s)

/-- AMEND_RATE. -/
def execAmendRate (key : Bool) (args : List Byte) (s : State) : Host.Outcome State Fault Refusal :=
  .next (runRequest 0x81 args (reqAmendRate key args) s)

/-- RETIRE RATE (R165); the reply carries the entry as it stood. -/
def reqRetireRate (key : Bool) (args : List Byte) : State → State :=
  decoded (decodeIndex args) fun index s =>
    check .locked key
      (fun s => found .notFound (s.pricing.entry index) (fun e =>
        check .inUse (s.useCount index == 0) fun s =>
          done (rateBody s index e) (setEntry index none s)) s) (sampleKey key s)

/-- RETIRE_RATE. -/
def execRetireRate (key : Bool) (args : List Byte) (s : State) : Host.Outcome State Fault Refusal :=
  .next (runRequest 0x82 args (reqRetireRate key args) s)

/-- LOOK UP RATE (R166). -/
def reqLookUpRate (args : List Byte) : State → State :=
  decoded (decodeIndex args) fun index s =>
    found .notFound (s.pricing.entry index) (fun e s => done (rateBody s index e) s) s

/-- LOOK_UP_RATE. -/
def execLookUpRate (args : List Byte) (s : State) : Host.Outcome State Fault Refusal :=
  .next (runRequest 0x83 args (reqLookUpRate args) s)

/-! ## Charges (R168 to R171) -/

/-- A charge: its kind, the values a filter may name, and its quantity in the unit of R172. -/
structure Charge where
  kind     : ChargeKind
  hardness : Nat
  band     : Nat
  diameter : Nat
  activity : Nat
  qty      : Nat
deriving DecidableEq, Repr

/-- The bottom of a band: band 15 has none (R168). -/
def bandBottom (width k hole : Nat) : Nat := if k < 15 then (k + 1) * width else hole

/-- The length of an interval in band `k` (R168). -/
def lengthInBand (width k : Nat) (i : Interval) : Nat :=
  overlap i.top i.bottom (k * width) (bandBottom width k i.bottom)

/-- The footage charges of an interval: its pieces by band (R168). -/
def footageOf (width : Nat) (i : Interval) : List Charge :=
  ((List.range 16).map fun k => ⟨.footage, i.hardness, k, i.diameter, 0, lengthInBand width k i⟩).filter
    fun c => c.qty != 0

/-- The eight counters in the order of the activity codes (R150). -/
def Seconds.toList (x : Seconds) : List Nat :=
  [x.down, x.drilling, x.reaming, x.tripping, x.circulating, x.idle, x.standby, x.shutdown]

/-- Tenths of an hour, each started tenth whole (R169). -/
def tenths (seconds : Nat) : Nat := (seconds + 359) / 360

/-- The time charges (R169). -/
def timeCharges (x : Seconds) : List Charge :=
  (x.toList.zipIdx.map fun p => (⟨.time, 0, 0, 0, p.2, tenths p.1⟩ : Charge)).filter fun c => c.qty != 0

/-- The lost mud of a map in litres, rounded half up (R170). -/
def mudLitres (m : List Interval) : Nat := ((m.map (·.lostMud)).sum + 500) / 1000

/-- The number of strikes of a map (R170). -/
def strikeCount (m : List Interval) : Nat := (m.filter (·.strike.isSome)).length

/-- Every charge of a job but the fixed ones (R168 to R170). -/
def Job.charges (j : Job) : List Charge :=
  (j.map.map (footageOf j.bandWidth)).flatten ++ timeCharges j.seconds ++
    ([⟨.mud, 0, 0, 0, 0, mudLitres j.map⟩, ⟨.strike, 0, 0, 0, 0, strikeCount j.map⟩] : List Charge).filter
      fun c => c.qty != 0

/-! ## Matching (R160) -/

/-- A range filter lets a value through: absent, or both bounds included. -/
def passes (f : Option (Nat × Nat)) (v : Nat) : Bool :=
  match f with
  | some (lo, hi) => lo ≤ v && v ≤ hi
  | none => true

/-- An entry matches a charge of its kind by the filters its kind uses (R160). -/
def RateEntry.matches (e : RateEntry) (c : Charge) : Bool :=
  e.kind == c.kind &&
    match c.kind with
    | .footage => passes e.hardness c.hardness && passes e.band c.band && passes e.diameter c.diameter
    | .time => (e.activity.map fun a => a == c.activity).getD true
    | .mud => true
    | .strike => true
    | .fixed => true

/-- Whether the entry of an index is valid and matches a charge. -/
def matchesAt (rates : List (Option RateEntry)) (c : Charge) (index : Nat) : Bool :=
  match (rates[index]?).join with
  | some e => e.matches c
  | none => false

/-- The lowest index whose entry matches a charge (R160). -/
def firstMatch (rates : List (Option RateEntry)) (c : Charge) : Option Nat :=
  (List.range 32).find? (matchesAt rates c)

/-- The quantity that an index receives, or that stays unpriced of a kind (R168 to R170). -/
def receivedQty (rates : List (Option RateEntry)) (charges : List Charge) (index : Nat) : Nat :=
  ((charges.filter fun c => firstMatch rates c == some index).map (·.qty)).sum

/-- The unpriced quantity of a kind. -/
def unpricedQty (rates : List (Option RateEntry)) (charges : List Charge) (k : ChargeKind) : Nat :=
  ((charges.filter fun c => c.kind == k && (firstMatch rates c).isNone).map (·.qty)).sum

/-! ## Lines (R172, R173) -/

/-- The amount of a line, rounded half up (R173). -/
def amount (k : ChargeKind) (qty rate : Nat) : Nat :=
  match k with
  | .footage => (qty * rate + 500) / 1000
  | .time => (qty * rate + 5) / 10
  | .mud => (qty * rate + 500) / 1000
  | .strike => qty * rate
  | .fixed => qty * rate

/-- The line of an entry for a quantity; none for a quantity of 0 (R172). -/
def pricedLine (index : Nat) (e : RateEntry) (qty : Nat) : Option Line :=
  if qty = 0 then none else some ⟨e.kind, some index, e.label, qty, e.rate, amount e.kind qty e.rate⟩

/-- The line an index makes: a valid FIXED entry always makes one, of quantity 1 (R171, R172). -/
def lineOf (rates : List (Option RateEntry)) (charges : List Charge) (index : Nat) : Option Line :=
  match (rates[index]?).join with
  | some e => pricedLine index e (if e.kind = .fixed then 1 else receivedQty rates charges index)
  | none => none

/-- The unpriced line of a kind (R172). -/
def unpricedLine (rates : List (Option RateEntry)) (charges : List Charge) (k : ChargeKind) : Option Line :=
  let qty := unpricedQty rates charges k
  if qty = 0 then none else some ⟨k, none, none, qty, 0, 0⟩

/-- The lines of a pricing: by rate index, then the unpriced ones (R172). -/
def priceLines (rates : List (Option RateEntry)) (j : Job) : List Line :=
  (List.range 32).filterMap (lineOf rates j.charges) ++
    [.footage, .time, .mud, .strike].filterMap (unpricedLine rates j.charges)

/-- The invoice total (R173). -/
def totalOf (lines : List Line) : Nat := (lines.map (·.amount)).sum

/-! ## PRICE JOB -/

/-- The milliseconds since the request now carried out was accepted (R181). -/
def PortUnit.sinceAcceptance (p : PortUnit) : Nat :=
  match p.engine with
  | .accepted _ _ ms => ms
  | .idle => 0
  | .surveying => 0
  | .pricing => 0

/-- A pricing started: the lines are built in the working store, and the engine stays BUSY (R167). Its time counts
from the acceptance of the request, from which R181 gives the 20 ms. -/
def startPricing (slot : Nat) (j : Job) (s : State) : State :=
  (s.setPricing { s.pricing with
    working := some ⟨slot, priceLines s.pricing.rates j, s.port.sinceAcceptance⟩ }).setPort
    { s.port with engine := .pricing }

/-- PRICE JOB (R167). -/
def reqPriceJob (args : List Byte) : State → State :=
  decoded (decodeJobSlot args) fun slot s =>
    found .notFound (s.job.jobs.get slot) (fun j =>
      check .wrongState (j.state == .complete) (startPricing slot j)) s

/-- PRICE_JOB. -/
def execPriceJob (args : List Byte) (s : State) : Host.Outcome State Fault Refusal :=
  .next (runRequest 0x84 args (reqPriceJob args) s)

/-- A slot joins the unpriced set, which stays in rising order (R174). -/
def joinUnpriced (slot : Nat) (s : State) : State :=
  s.setPricing { s.pricing with
    unpriced := jobSlots.filter fun n => n == slot || s.pricing.unpriced.contains n }

/-- The lines written into the job record (R167). -/
def Job.priced (lines : List Line) (j : Job) : Job := { j with state := .priced, lines := lines, total := totalOf lines }

/-- The reply of PRICE JOB, from the job record as written (R167). -/
def donePricing (slot : Nat) (s : State) : State :=
  done (((s.job.jobs.get slot).map (invoiceBody slot)).getD []) s

/-- The pricing completes (R167). -/
def pricingCompletes (s : State) : State :=
  match s.pricing.working with
  | none => s
  | some w =>
    let t := (s.modifyJob w.slot (Job.priced w.lines)).setPricing { s.pricing with working := none }
    let t := if w.lines.any fun l => l.index.isNone then joinUnpriced w.slot t else t
    donePricing w.slot t

/-- PRICING_COMPLETE (R167). -/
def execPricingComplete (s : State) : Host.Outcome State Fault Refusal := .next (whenRunning pricingCompletes s)

/-! ## Invoice requests -/

/-- Whether a job carries lines (R175). -/
def Job.invoiced (j : Job) : Bool := j.state == .priced || j.state == .settled

/-- The line of a number, with no bytes above the number of lines (R175, log 28). -/
def lineReply (j : Job) (n : Nat) : List Byte :=
  match j.lines[n - 1]? with
  | some l => lineBody n l
  | none => []

/-- READ INVOICE LINE (R175). -/
def reqReadInvoiceLine (args : List Byte) : State → State :=
  decoded (decodeInvoiceLine args) fun x s =>
    found .notFound (s.job.jobs.get x.1) (fun j =>
      check .wrongState j.invoiced fun s =>
        done (invoiceBody x.1 j ++ lineReply j x.2) (leaveUnpriced x.1 s)) s

/-- READ_INVOICE_LINE. -/
def execReadInvoiceLine (args : List Byte) (s : State) : Host.Outcome State Fault Refusal :=
  .next (runRequest 0x85 args (reqReadInvoiceLine args) s)

/-- The conditions that RELEASE PRICING and SETTLE JOB share (R176, R177). -/
def withPriced (key : Bool) (slot : Nat) (k : Job → State → State) (s : State) : State :=
  found .notFound (s.job.jobs.get slot) (fun j =>
    check .wrongState (j.state == .priced) (check .locked key (k j))) s

/-- A PRICED job returned to COMPLETE (R176). -/
def Job.released (j : Job) : Job := { j with state := .complete, lines := [], total := 0 }

/-- RELEASE PRICING (R176). -/
def reqReleasePricing (key : Bool) (args : List Byte) : State → State :=
  decoded (decodeJobSlot args) fun slot s =>
    withPriced key slot (fun j t =>
      done (be 1 slot ++ be 1 JobState.complete.code ++ be 1 j.lines.length)
        (leaveUnpriced slot (t.putJob slot (some j.released)))) (sampleKey key s)

/-- RELEASE_PRICING. -/
def execReleasePricing (key : Bool) (args : List Byte) (s : State) : Host.Outcome State Fault Refusal :=
  .next (runRequest 0x86 args (reqReleasePricing key args) s)

/-- SETTLE JOB (R177). -/
def reqSettleJob (key : Bool) (args : List Byte) : State → State :=
  decoded (decodeJobSlot args) fun slot s =>
    withPriced key slot (fun j t =>
      done (be 1 slot ++ be 1 JobState.settled.code ++ be 1 j.lines.length ++ be 6 j.total)
        (t.putJob slot (some { j with state := .settled }))) (sampleKey key s)

/-- SETTLE_JOB. -/
def execSettleJob (key : Bool) (args : List Byte) (s : State) : Host.Outcome State Fault Refusal :=
  .next (runRequest 0x87 args (reqSettleJob key args) s)

end Sys2Proof.Machine
end

