-- ==== Sys2Proof/Machine/Rods.lean ====
section
/-! DEFINITION. The rod requests (R13 to R22). -/
namespace Sys2Proof.Machine

/-- The rod unit changed, and the reply carries the record of a tag as it stands after the request (R13). -/
def doneRod (tag : Nat) (u : RodUnit) (s : State) : State :=
  done (((u.find tag).map rodBody).getD []) (s.setRod u)

/-! ## ENTER ROD -/

/-- ENTER ROD (R14). -/
def reqEnterRod (args : List Byte) : State → State :=
  decoded (decodeEnterRod args) fun x s =>
    check .full (decide (s.rod.rods.length < 200))
      (check .inUse (s.rod.find x.1.tag).isNone
        (check .inUse (s.rod.slotOpen x.2)
          (doneRod x.1.tag { s.rod with rods := s.rod.rods ++ [x.1] }))) s

/-- ENTER_ROD. -/
def execEnterRod (args : List Byte) (s : State) : Host.Outcome State Fault Refusal :=
  .next (runRequest 0x10 args (reqEnterRod args) s)

/-! ## LOOK UP ROD -/

/-- LOOK UP ROD (R15). -/
def reqLookUpRod (args : List Byte) : State → State :=
  decoded (decodeTag args) fun tag s => found .notFound (s.rod.find tag) (fun r => done (rodBody r)) s

/-- LOOK_UP_ROD. -/
def execLookUpRod (args : List Byte) (s : State) : Host.Outcome State Fault Refusal :=
  .next (runRequest 0x11 args (reqLookUpRod args) s)

/-! ## AMEND ROD -/

/-- Whether any field but the wear limit is amended (R16). -/
def RodAmendment.physical (x : RodAmendment) : Bool :=
  x.length.isSome || x.od.isSome || x.id.isSome || x.mass.isSome || x.wear.isSome

/-- The record with the present fields written together (R16). -/
def RodAmendment.apply (x : RodAmendment) (r : RodRecord) : RodRecord :=
  { r with
    length := x.length.getD r.length
    od := x.od.getD r.od
    id := x.id.getD r.id
    mass := x.mass.getD r.mass
    wearMilli := match x.wear with
      | some w => w * 1000
      | none => r.wearMilli
    wearLimit := x.limit.getD r.wearLimit }

/-- AMEND ROD (R16). -/
def reqAmendRod (args : List Byte) : State → State :=
  decoded (decodeAmendRod args) fun x s =>
    found .notFound (s.rod.find x.tag) (fun r =>
      check .inUse r.reservation.isNone
        (check .wrongState (!x.physical || r.location == .quarantine)
          (check .outOfRange (decide ((x.apply r).id + 10 ≤ (x.apply r).od))
            (doneRod x.tag (s.rod.modify x.tag x.apply))))) s

/-- AMEND_ROD. -/
def execAmendRod (args : List Byte) (s : State) : Host.Outcome State Fault Refusal :=
  .next (runRequest 0x12 args (reqAmendRod args) s)

/-! ## QUARANTINE ROD -/

/-- QUARANTINE ROD (R17). -/
def reqQuarantineRod (args : List Byte) : State → State :=
  decoded (decodeTag args) fun tag s =>
    found .notFound (s.rod.find tag) (fun r =>
      check .inUse r.reservation.isNone
        (check .wrongState r.racked (doneRod tag (s.rod.move tag .quarantine)))) s

/-- QUARANTINE_ROD. -/
def execQuarantineRod (args : List Byte) (s : State) : Host.Outcome State Fault Refusal :=
  .next (runRequest 0x13 args (reqQuarantineRod args) s)

/-! ## RETURN ROD -/

/-- RETURN ROD (R18). -/
def reqReturnRod (args : List Byte) : State → State :=
  decoded (decodeReturnRod args) fun x s =>
    found .notFound (s.rod.find x.1) (fun r =>
      check .wrongState (r.location == .quarantine)
        (check .inUse (s.rod.slotOpen x.2) (doneRod x.1 (s.rod.move x.1 (.rack x.2))))) s

/-- RETURN_ROD. -/
def execReturnRod (args : List Byte) (s : State) : Host.Outcome State Fault Refusal :=
  .next (runRequest 0x14 args (reqReturnRod args) s)

/-! ## RETIRE ROD -/

/-- A record freed (R19). -/
def RodUnit.free (u : RodUnit) (tag : Nat) : RodUnit := { u with rods := u.rods.filter fun r => r.tag != tag }

/-- RETIRE ROD (R19); the reply carries the record as it stood. -/
def reqRetireRod (args : List Byte) : State → State :=
  decoded (decodeTag args) fun tag s =>
    found .notFound (s.rod.find tag) (fun r =>
      check .inUse r.reservation.isNone
        (check .wrongState (r.racked || r.location == .quarantine)
          (fun t => done (rodBody r) (t.setRod (t.rod.free tag))))) s

/-- RETIRE_ROD. -/
def execRetireRod (args : List Byte) (s : State) : Host.Outcome State Fault Refusal :=
  .next (runRequest 0x15 args (reqRetireRod args) s)

/-! ## RESOLVE ROD -/

/-- Condition 2 of RESOLVE ROD (R20): the code that refuses a record for a destination, if any. A reserved rack record
with another destination than STRING_TOP is refused with WRONG_STATE, as R20 gives, and not with IN_USE, as R7 gives
every reserved rod (DESIGN CHOICE, log 43). -/
def resolveRefusal (r : RodRecord) (d : Destination) : Option ReplyCode :=
  match r.location with
  | .uncertain => none
  | .rack _ =>
    match d with
    | .stringTop => if r.reservation.isSome then some .inUse else none
    | .rack _ => some .wrongState
    | .quarantine => some .wrongState
  | .string _ => some .wrongState
  | .quarantine => some .wrongState
  | .inTransfer => some .wrongState

/-- The carrier that RESOLVE ROD gives the first member of an empty string (R69). -/
def Pins.firstCarrier (p : Pins) : Holder :=
  if p.slipsClosed then .slips else if p.elevClosed then .elevator else .slips

/-- A rod placed at the string top by the host: no wear of its own, and the change handed on (R20, R4, R69). Where the
change of the string extends the hole, the wear of that drilling falls on the members by R5 and R9 (DESIGN CHOICE, log
44). -/
def placeAtTop (tag : Nat) (s : State) : State :=
  let carrier := if s.rod.members.isEmpty then some s.pins.firstCarrier else s.handler.carrier
  refreshPermits (stringChanged
    ((s.setRod (s.rod.append tag)).setHandler { s.handler with carrier := carrier }))

/-- The record of a tag as a reply carries it, from the state reached. -/
def replyRod (tag : Nat) (s : State) : State := done (((s.rod.find tag).map rodBody).getD []) s

/-- Conditions 3 and 4 of RESOLVE ROD and its effect, by destination (R20). -/
def resolveTo (tag : Nat) (r : RodRecord) : Destination → State → State
  | .rack slot, s => check .inUse (s.rod.slotOpen slot) (doneRod tag (s.rod.move tag (.rack slot))) s
  | .quarantine, s => doneRod tag (s.rod.move tag .quarantine) s
  | .stringTop, s =>
    check .wrongState (r.status == .inService)
      (check .noJob s.activeJob.isSome
        (check .full (decide (s.rod.members.length < 200))
          (fun t => replyRod tag (placeAtTop tag t)))) s

/-- RESOLVE ROD (R20). -/
def reqResolveRod (args : List Byte) : State → State :=
  decoded (decodeResolveRod args) fun x s =>
    found .notFound (s.rod.find x.1) (fun r =>
      check .wrongState (!s.handler.pastWaiting) fun t =>
        match resolveRefusal r x.2 with
        | some code => refuse code t
        | none => resolveTo x.1 r x.2 t) s

/-- RESOLVE_ROD. -/
def execResolveRod (args : List Byte) (s : State) : Host.Outcome State Fault Refusal :=
  .next (runRequest 0x16 args (reqResolveRod args) s)

/-! ## LIST STRING and READ STRING -/

/-- LIST STRING (R21). -/
def reqListString (args : List Byte) : State → State :=
  decoded (decodeListString args) fun start s => done (listStringBody s.rod start) s

/-- LIST_STRING. -/
def execListString (args : List Byte) (s : State) : Host.Outcome State Fault Refusal :=
  .next (runRequest 0x17 args (reqListString args) s)

/-- READ STRING (R22). -/
def reqReadString (args : List Byte) : State → State :=
  decoded (noArgs args) fun _ s => done (readStringBody s) s

/-- READ_STRING. -/
def execReadString (args : List Byte) (s : State) : Host.Outcome State Fault Refusal :=
  .next (runRequest 0x18 args (reqReadString args) s)

end Sys2Proof.Machine
end

