-- ==== Sys2Proof/Machine/Dispatch.lean ====
section
/-! DEFINITION. exec: one arm for each command. -/
namespace Sys2Proof.Machine

def exec (i : Instr) (s : State) : Host.Outcome State Fault Refusal :=
  match i with
  | .enterRod args => Sys2Proof.Machine.execEnterRod args s
  | .lookUpRod args => Sys2Proof.Machine.execLookUpRod args s
  | .amendRod args => Sys2Proof.Machine.execAmendRod args s
  | .quarantineRod args => Sys2Proof.Machine.execQuarantineRod args s
  | .returnRod args => Sys2Proof.Machine.execReturnRod args s
  | .retireRod args => Sys2Proof.Machine.execRetireRod args s
  | .resolveRod args => Sys2Proof.Machine.execResolveRod args s
  | .listString args => Sys2Proof.Machine.execListString args s
  | .readString args => Sys2Proof.Machine.execReadString args s
  | .newFormation args => Sys2Proof.Machine.execNewFormation args s
  | .lookUpInterval args => Sys2Proof.Machine.execLookUpInterval args s
  | .amendInterval args => Sys2Proof.Machine.execAmendInterval args s
  | .splitInterval args => Sys2Proof.Machine.execSplitInterval args s
  | .mergeIntervals args => Sys2Proof.Machine.execMergeIntervals args s
  | .setDiameterRange args => Sys2Proof.Machine.execSetDiameterRange args s
  | .recordStrike args => Sys2Proof.Machine.execRecordStrike args s
  | .clearStrike args => Sys2Proof.Machine.execClearStrike args s
  | .changeBit args => Sys2Proof.Machine.execChangeBit args s
  | .readLive wrenchDone racked rateKey args => Sys2Proof.Machine.execReadLive wrenchDone racked rateKey args s
  | .addRod args => Sys2Proof.Machine.execAddRod args s
  | .pullRod args => Sys2Proof.Machine.execPullRod args s
  | .transferHold args => Sys2Proof.Machine.execTransferHold args s
  | .cancelHandler args => Sys2Proof.Machine.execCancelHandler args s
  | .readHandler args => Sys2Proof.Machine.execReadHandler args s
  | .setPump args => Sys2Proof.Machine.execSetPump args s
  | .readCirculation args => Sys2Proof.Machine.execReadCirculation args s
  | .mudCheck args => Sys2Proof.Machine.execMudCheck args s
  | .rebaseBalance args => Sys2Proof.Machine.execRebaseBalance args s
  | .readBalance args => Sys2Proof.Machine.execReadBalance args s
  | .requestSweep args => Sys2Proof.Machine.execRequestSweep args s
  | .waiveSweep args => Sys2Proof.Machine.execWaiveSweep args s
  | .readSweep args => Sys2Proof.Machine.execReadSweep args s
  | .openJob args => Sys2Proof.Machine.execOpenJob args s
  | .completeJob args => Sys2Proof.Machine.execCompleteJob args s
  | .lookUpJob args => Sys2Proof.Machine.execLookUpJob args s
  | .retireJob key args => Sys2Proof.Machine.execRetireJob key args s
  | .enterRate key args => Sys2Proof.Machine.execEnterRate key args s
  | .amendRate key args => Sys2Proof.Machine.execAmendRate key args s
  | .retireRate key args => Sys2Proof.Machine.execRetireRate key args s
  | .lookUpRate args => Sys2Proof.Machine.execLookUpRate args s
  | .priceJob args => Sys2Proof.Machine.execPriceJob args s
  | .pricingComplete => Sys2Proof.Machine.execPricingComplete s
  | .readInvoiceLine args => Sys2Proof.Machine.execReadInvoiceLine args s
  | .releasePricing key args => Sys2Proof.Machine.execReleasePricing key args s
  | .settleJob key args => Sys2Proof.Machine.execSettleJob key args s
  | .readAttention args => Sys2Proof.Machine.execReadAttention args s
  | .clearFaults args => Sys2Proof.Machine.execClearFaults args s
  | .readConfig args => Sys2Proof.Machine.execReadConfig args s
  | .setConfig args => Sys2Proof.Machine.execSetConfig args s
  | .unknownRequest code args => Sys2Proof.Machine.execUnknownRequest code args s
  | .exchangeBegin => Sys2Proof.Machine.execExchangeBegin s
  | .exchangeEnd bytes partialBits => Sys2Proof.Machine.execExchangeEnd bytes partialBits s
  | .frameArrival frame => Sys2Proof.Machine.execFrameArrival frame s
  | .frameCutShort => Sys2Proof.Machine.execFrameCutShort s
  | .linkLoss => Sys2Proof.Machine.execLinkLoss s
  | .strokeTimeout pump => Sys2Proof.Machine.execStrokeTimeout pump s
  | .sweepHoldExpiry => Sys2Proof.Machine.execSweepHoldExpiry s
  | .surveyComplete => Sys2Proof.Machine.execSurveyComplete s
  | .settleReached => Sys2Proof.Machine.execSettleReached s
  | .holderInputChange holder closed => Sys2Proof.Machine.execHolderInputChange holder closed s
  | .wrenchDoneRise => Sys2Proof.Machine.execWrenchDoneRise s
  | .rackedRise => Sys2Proof.Machine.execRackedRise s
  | .blankingEnd => Sys2Proof.Machine.execBlankingEnd s
  | .closedRunReachesTransferTime holder => Sys2Proof.Machine.execClosedRunReachesTransferTime holder s
  | .stageTimeout => Sys2Proof.Machine.execStageTimeout s
  | .allstopFall => Sys2Proof.Machine.execAllstopFall s
  | .allstopRise => Sys2Proof.Machine.execAllstopRise s
  | .idleGraceExpiry => Sys2Proof.Machine.execIdleGraceExpiry s
  | .standbyLimitExpiry => Sys2Proof.Machine.execStandbyLimitExpiry s
  | .secondMark => Sys2Proof.Machine.execSecondMark s
  | .rstFaultClearPulse lowMs => Sys2Proof.Machine.execRstFaultClearPulse lowMs s
  | .resetEntry => Sys2Proof.Machine.execResetEntry s
  | .start levels => Sys2Proof.Machine.execStart levels s
  | .determinationEnd => Sys2Proof.Machine.execDeterminationEnd s
  | .mainPowerLoss => Sys2Proof.Machine.execMainPowerLoss s
  | .retentionLostSet => Sys2Proof.Machine.execRetentionLostSet s
  | .backupLowChange low => Sys2Proof.Machine.execBackupLowChange low s
  | .frameStart => Sys2Proof.Machine.execFrameStart s
  | .resetLineFall => Sys2Proof.Machine.execResetLineFall s
  | .mainPowerReturnInReset => Sys2Proof.Machine.execMainPowerReturnInReset s

end Sys2Proof.Machine
end

