-- ==== Sys2Proof/Machine/Time.lean ====
section
/-! DEFINITION. One millisecond of the part's time base (00_scope.md, Time): what a step does on an empty queue
(DESIGN CHOICE, log 2). Every running timer advances, and the events whose timers have come due are taken. -/
namespace Sys2Proof.Machine

/-! ## The timers -/

/-- A timer that runs while it is present. -/
def runTimer (t : Option Nat) : Option Nat := t.map (· + 1)

/-- A pump's stroke timer, which runs while the pump is PUMPING (R56). -/
def PumpLine.advance (l : PumpLine) : PumpLine := if l.state = .pumping then { l with timerMs := l.timerMs + 1 } else l

/-- The receiver's timers (R52, R56, R60). -/
def HubUnit.advance (h : HubUnit) : HubUnit :=
  { h with linkMs := h.linkMs + 1, sinceStartMs := runTimer h.sinceStartMs, pumpA := h.pumpA.advance, pumpB := h.pumpB.advance }

/-- The handler's timers (R68, R71, R79, R87). -/
def HandlerUnit.advance (h : HandlerUnit) : HandlerUnit :=
  { h with
    stageMs := if h.pastWaiting then h.stageMs + 1 else h.stageMs
    transfer := h.transfer.map fun t => { t with runMs := runTimer t.runMs }
    slipsRun := runTimer h.slipsRun
    elevRun := runTimer h.elevRun
    blankingMs := runTimer h.blankingMs
    determinationMs := runTimer h.determinationMs }

/-- The settle timer and the survey's time (R101, R111). -/
def CircUnit.advance (c : CircUnit) : CircUnit :=
  { c with settleMs := c.settleMs + 1, survey := c.survey.map fun v => { v with elapsedMs := v.elapsedMs + 1 } }

/-- The hold timer of a sweep (R134). -/
def SweepUnit.advance (w : SweepUnit) : SweepUnit :=
  { w with current := w.current.map fun r => { r with holdMs := runTimer r.holdMs } }

/-- The idle and standby timers and the time base (R153, R154). -/
def JobUnit.advance (u : JobUnit) : JobUnit :=
  { u with
    idleMs := if u.activity = .idle then u.idleMs + 1 else u.idleMs
    standbyMs := if u.activity = .standby then u.standbyMs + 1 else u.standbyMs
    secondMs := u.secondMs + 1 }

/-- The time of a pricing (R167). -/
def PricingUnit.advance (p : PricingUnit) : PricingUnit :=
  { p with working := p.working.map fun w => { w with elapsedMs := w.elapsedMs + 1 } }

/-- The time since a request was accepted (R181). -/
def PortUnit.advance (p : PortUnit) : PortUnit :=
  match p.engine with
  | .accepted code args ms => { p with engine := .accepted code args (ms + 1) }
  | .idle => p
  | .surveying => p
  | .pricing => p

/-- Every running timer one millisecond on. -/
def advance (s : State) : State where
  rod       := s.rod
  bore      := s.bore
  hub       := s.hub.advance
  handler   := s.handler.advance
  circ      := s.circ.advance
  sweep     := s.sweep.advance
  job       := s.job.advance
  pricing   := s.pricing.advance
  port      := s.port.advance
  config    := s.config
  power     := { s.power with rstLowMs := runTimer s.power.rstLowMs }
  pins      := s.pins
  pending   := s.pending
  freeCount := s.freeCount

/-! ## A request that completes at its bound (R181) -/

/-- A level that a request reads and no command carried (log 4). -/
def withFreeLevel (k : Bool → State → State) (s : State) : State :=
  k (Config.freeLevel s.freeCount) (s.setFreeCount (s.freeCount + 1))

/-- The request that a code names (R184), with free levels for the pins it reads. -/
def requestByCode (code : Byte) (args : List Byte) : State → State :=
  match code.toNat with
  | 0x10 => reqEnterRod args
  | 0x11 => reqLookUpRod args
  | 0x12 => reqAmendRod args
  | 0x13 => reqQuarantineRod args
  | 0x14 => reqReturnRod args
  | 0x15 => reqRetireRod args
  | 0x16 => reqResolveRod args
  | 0x17 => reqListString args
  | 0x18 => reqReadString args
  | 0x20 => reqNewFormation args
  | 0x21 => reqLookUpInterval args
  | 0x22 => reqAmendInterval args
  | 0x23 => reqSplitInterval args
  | 0x24 => reqMergeIntervals args
  | 0x25 => reqSetDiameterRange args
  | 0x26 => reqRecordStrike args
  | 0x27 => reqClearStrike args
  | 0x28 => reqChangeBit args
  | 0x30 => withFreeLevel fun a => withFreeLevel fun b => withFreeLevel fun c => reqReadLive a b c args
  | 0x40 => reqAddRod args
  | 0x41 => reqPullRod args
  | 0x42 => reqTransferHold args
  | 0x43 => reqCancelHandler args
  | 0x44 => reqReadHandler args
  | 0x50 => reqSetPump args
  | 0x51 => reqReadCirculation args
  | 0x58 => reqMudCheck args
  | 0x59 => reqRebaseBalance args
  | 0x5A => reqReadBalance args
  | 0x60 => reqRequestSweep args
  | 0x61 => reqWaiveSweep args
  | 0x62 => reqReadSweep args
  | 0x70 => reqOpenJob args
  | 0x71 => reqCompleteJob args
  | 0x72 => reqLookUpJob args
  | 0x73 => withFreeLevel fun key => reqRetireJob key args
  | 0x80 => withFreeLevel fun key => reqEnterRate key args
  | 0x81 => withFreeLevel fun key => reqAmendRate key args
  | 0x82 => withFreeLevel fun key => reqRetireRate key args
  | 0x83 => reqLookUpRate args
  | 0x84 => reqPriceJob args
  | 0x85 => reqReadInvoiceLine args
  | 0x86 => withFreeLevel fun key => reqReleasePricing key args
  | 0x87 => withFreeLevel fun key => reqSettleJob key args
  | 0x01 => reqReadAttention args
  | 0x02 => reqClearFaults args
  | 0x03 => reqReadConfig args
  | 0x04 => reqSetConfig args
  | _ => refuse .unknownRequest

/-- An accepted request completes by the bound of 1 ms (R181). A READ CIRCULATION, whose survey its acceptance asked for,
goes on waiting for it (R104). -/
def boundRequest (s : State) : State :=
  match s.port.engine with
  | .accepted code args _ => requestByCode code args s
  | .idle => s
  | .surveying => s
  | .pricing => s

/-! ## The events that come due -/

/-- The events of the timers. -/
inductive TimerEvent where
  | linkLoss
  | strokeTimeout (pump : Pump)
  | sweepHold
  | survey
  | settle
  | blanking
  | run (holder : Holder)
  | transferRun
  | stage
  | idle
  | standby
  | second
  | reset
  | determination
  | pricing
  | request
deriving DecidableEq, Repr

/-- Whether a pump's stroke timer has reached the timeout (R56). -/
def State.strokeDue (s : State) (p : Pump) : Bool :=
  (s.hub.pump p).state == .pumping && decide (s.config.strokeTimeout ≤ (s.hub.pump p).timerMs)

/-- Whether the survey has run for 3 ms since its last start or restart (R101). -/
def State.surveyDue (s : State) : Bool := (s.circ.survey.map fun v => decide (3 ≤ v.elapsedMs)).getD false

/-- Whether a transfer's run has reached the transfer time (R71). -/
def State.transferDue (s : State) : Bool :=
  ((s.handler.transfer.bind (·.runMs)).map fun ms => decide (s.config.transferTime ≤ ms)).getD false

/-- Whether an accepted request has reached its bound (R181). -/
def State.requestDue (s : State) : Bool :=
  match s.port.engine with
  | .accepted _ _ ms => 1 ≤ ms
  | .idle => false
  | .surveying => false
  | .pricing => false

/-- Whether an event is due. A closed run and the settle timer act as they reach their times, and run on past them. -/
def TimerEvent.due (s : State) : TimerEvent → Bool
  | .linkLoss => s.hub.linkUp && decide (100 ≤ s.hub.linkMs)
  | .strokeTimeout p => s.strokeDue p
  | .sweepHold => s.holdDue
  | .survey => s.surveyDue
  | .settle => s.circ.settleMs == s.config.settleTime * 1000
  | .blanking => s.blankingDue
  | .run h => s.handler.run h == some s.config.transferTime
  | .transferRun => s.transferDue
  | .stage => s.stageDue
  | .idle => s.idleDue
  | .standby => s.standbyDue
  | .second => decide (1000 ≤ s.job.secondMs)
  | .reset => (s.power.rstLowMs.map fun ms => decide (200 ≤ ms)).getD false
  | .determination => s.determinationDue
  | .pricing => (s.pricing.working.map fun w => decide (20 ≤ w.elapsedMs)).getD false
  | .request => s.requestDue

/-- What an event does. -/
def TimerEvent.act : TimerEvent → State → State
  | .linkLoss => linkLost
  | .strokeTimeout p => strokeTimedOut p
  | .sweepHold => holdExpires
  | .survey => surveyCompletes
  | .settle => runQueue
  | .blanking => blankingEnds
  | .run _ => refreshPermits
  | .transferRun => runsReached
  | .stage => stageTimesOut
  | .idle => idleExpires
  | .standby => standbyExpires
  | .second => secondPasses
  | .reset => entersReset
  | .determination => determinationEnds
  | .pricing => pricingCompletes
  | .request => boundRequest

/-- Every event of the timers. -/
def TimerEvent.all : List TimerEvent :=
  [.linkLoss, .strokeTimeout .a, .strokeTimeout .b, .sweepHold, .survey, .settle, .blanking, .run .slips,
   .run .elevator, .transferRun, .stage, .idle, .standby, .second, .reset, .determination, .pricing, .request]

/-- Whether an event that came due still stands when its turn comes: what another expiry or a request of the same
millisecond has undone does not. The balance has become settled while it is settled, at whatever settle time a SET
CONFIG has written meanwhile (R111). -/
def TimerEvent.stands (s : State) (e : TimerEvent) : Bool := if e = .settle then s.settled else e.due s

/-- An event taken if it still stands and the part still runs when its turn comes. -/
def TimerEvent.take (e : TimerEvent) (s : State) : State := if s.running && e.stands s then e.act s else s

/-- One millisecond: the timers advance, and the events then due are taken, in any order (log 2, log 3). -/
def tick (s : State) : State :=
  let t := advance s
  anyOrder ((TimerEvent.all.filter fun e => e.due t).map TimerEvent.take) t

end Sys2Proof.Machine
end

