-- ==== Sys2Proof/Safety.lean ====
section
/-! DEFINITION. What the statements speak of: the invariants of the part, and small views of a state and a command. -/
namespace Sys2Proof.Machine

/-! ## Invariants -/

/-- A strike lies at or below its interval's top and above its bottom (R29). -/
abbrev Interval.strikeOk (i : Interval) : Prop := ∀ k ∈ i.strike, i.top ≤ k.depth ∧ k.depth < i.bottom

/-- A list of intervals covers the depths from `top` to `hole` in depth order, without gap or overlap, and every one
but the last is at least 1 mm long (R27). -/
def covers (top hole : Nat) : List Interval → Bool
  | [] => false
  | [i] => decide (i.top = top ∧ i.bottom = hole ∧ top ≤ hole ∧ i.strikeOk)
  | i :: j :: rest => decide (i.top = top ∧ top < i.bottom ∧ i.strikeOk) && covers i.bottom hole (j :: rest)

/-- A job's map covers its hole, which is no deeper than any hole may be (R27, R29, R32). -/
abbrev Job.mapOk (j : Job) : Prop := covers 0 j.holeDepth j.map = true ∧ j.holeDepth ≤ maxDepth

/-- Every job's map covers its hole (R27). -/
abbrev MapsOk (s : State) : Prop := ∀ n ∈ jobSlots, ∀ j ∈ s.job.jobs.get n, j.mapOk

/-- The maps hold no more intervals than the pool has records, and at most one job is ACTIVE (R25, R144). -/
abbrev PoolOk (s : State) : Prop :=
  (jobSlots.map s.job.jobs.intervalsAt).sum ≤ 128 ∧
    ∀ m ∈ jobSlots, ∀ n ∈ jobSlots, (s.job.jobs.activeAt m).isSome → (s.job.jobs.activeAt n).isSome → m = n

/-- A job is ACTIVE while the string holds a member, and while an ADD ROD past WAITING is to bring it one (R63, R144); a
pricing holds the request engine, and its job is COMPLETE, so that no ACTIVE job is priced (R167). -/
abbrev ActiveOk (s : State) : Prop :=
  (s.rod.members ≠ [] → s.activeJob.isSome = true) ∧
  (∀ e ∈ s.handler.queue.head?, e.stage.working = true → e.op.kind = .addRod → s.activeJob.isSome = true) ∧
  (∀ w ∈ s.pricing.working, s.port.engine = .pricing ∧ (s.job.jobs.get w.slot).map (·.state) = some .complete)

/-- Every configuration item lies within its range (R190, R204); the masks of HOLD_FAULT and ALL_STOP, whose range is
0 alone, are therefore clear. -/
abbrev ConfigOk (s : State) : Prop := ∀ n < 256, ∀ i ∈ s.config.item n, i.lo ≤ i.value ∧ i.value ≤ i.hi

/-- A sweep is in progress, or overdue, only while one is owed (R127). -/
abbrev SweepOk (s : State) : Prop :=
  (s.sweep.current.isSome = true → s.sweep.owed = true) ∧ (s.sweep.overdue = true → s.sweep.owed = true)

/-- A code that a reply carries when its request was carried out (R184). -/
def ReplyCode.carriedOut (c : ReplyCode) : Bool := c == .done || c == .doneClamped

/-- The held reply is one that can be held: never NOT_READY, 61 bytes at most, and a refusal has none (R182, R184);
the handler queue holds four entries at most (R62). -/
abbrev ReplyOk (s : State) : Prop :=
  s.port.held.code ≠ .notReady ∧ s.port.held.body.length ≤ 61 ∧
    (s.port.held.code.carriedOut = false → s.port.held.body = []) ∧ s.handler.queue.length ≤ 4

/-- The four handler permits withdrawn. -/
abbrev HandlerUnit.noPermit (h : HandlerUnit) : Prop :=
  h.slipsRel = false ∧ h.elevRel = false ∧ h.rotPermit = false ∧ h.wrenchPermit = false

/-- The permits are safe: over a string never both releases (R70), never rotation with the wrench (R72, R73), the wrench
only in JOINING or UNJOINING with SLIPS the carrier (R73), and none at all while ALLSTOP_N is low, HOLD_FAULT is latched,
or the part does not run (R80, R83, R195, R198). -/
abbrev PermitsOk (s : State) : Prop :=
  (s.rod.members ≠ [] → ¬(s.handler.slipsRel = true ∧ s.handler.elevRel = true)) ∧
  ¬(s.handler.rotPermit = true ∧ s.handler.wrenchPermit = true) ∧
  (s.handler.wrenchPermit = true → s.handler.carrier = some .slips ∧
    (s.handler.headStage = some .joining ∨ s.handler.headStage = some .unjoining)) ∧
  (s.pins.allstopN = false ∨ s.handler.holdFault = true ∨ s.running = false → s.handler.noPermit)

/-! ### Where every piece of steel is (R1 to R4, R7, R8, R62) -/

/-- A record's location agrees with the rack, the string and the handler's hands (R2, R3, R4): no other rod lies in
its rack slot, which is not reserved; its string position is its place in the string list; and no second rod is
IN_TRANSFER. -/
def RodUnit.placeOk (u : RodUnit) (r : RodRecord) : Bool :=
  match r.location with
  | .rack n => (u.slotReservation n).isNone && u.rods.all fun x => x.location != .rack n || x.tag == r.tag
  | .string p => decide (1 ≤ p) && u.members[p - 1]? == some r.tag
  | .quarantine => true
  | .inTransfer => u.rods.all fun x => x.location != .inTransfer || x.tag == r.tag
  | .uncertain => true

/-- The rod table, the rack and the string agree: at most 200 records, no two with one tag (R1); each where its
location says; every member has a record at its position (R4); and a slot is reserved once at most (R3). -/
abbrev RodUnit.agrees (u : RodUnit) : Prop :=
  (u.rods.map (·.tag)).Nodup ∧ u.rods.length ≤ 200 ∧ u.members.length ≤ 200 ∧ (u.slotRes.map (·.1)).Nodup ∧
    (∀ r ∈ u.rods, u.placeOk r = true) ∧
    ∀ p ∈ u.members.zipIdx, (u.find p.1).map (·.location) = some (.string (p.2 + 1))

/-- The entry numbers of a queue follow one another from `n`, from 255 to 1, up to the next number (R62). -/
def numbersFrom (n next : Nat) : List Entry → Bool
  | [] => n == next
  | e :: rest => e.num == n && numbersFrom (nextEntryNum n) next rest

/-- The queue's numbers are those before the next number, each 1..255 (R62). -/
def HandlerUnit.numbersOk (h : HandlerUnit) : Bool :=
  decide (1 ≤ h.nextNum ∧ h.nextNum ≤ 255) &&
    match h.queue with
    | [] => true
    | e :: _ => decide (1 ≤ e.num ∧ e.num ≤ 255) && numbersFrom e.num h.nextNum h.queue

/-- The stages that can follow one another for an operation past WAITING (R75 to R78). -/
def pathOk (op : Operation) (stage : Stage) (rest : List Stage) : Bool :=
  match op with
  | .addRod _ =>
    [[.setting, .joining, .lifting], [.joining, .lifting], [.lifting], [.placing, .lifting]].contains (stage :: rest)
  | .pullRod _ =>
    [[.setting, .unjoining, .racking], [.unjoining, .racking], [.racking], [.setting, .liftingOut, .racking],
     [.liftingOut, .racking]].contains (stage :: rest)
  | .transferHold _ => [[.setting]].contains (stage :: rest)

/-- An entry holds the reservation of its rod or its slot (R7). -/
def RodUnit.reserves (u : RodUnit) (e : Entry) : Bool :=
  match e.op with
  | .addRod tag => (u.find tag).bind (·.reservation) == some e.num
  | .pullRod slot => u.slotReservation slot == some e.num
  | .transferHold _ => true

/-- An entry of a number and an operation is in the queue. -/
def HandlerUnit.hasEntry (h : HandlerUnit) (num : Nat) (op : Operation) : Bool :=
  h.queue.any fun e => e.num == num && e.op == op

/-- Every reservation of a rod or of a slot belongs to an entry of the queue, of the operation that reserved it (R7). -/
abbrev State.reservationsOwned (s : State) : Prop :=
  (∀ r ∈ s.rod.rods, ∀ n ∈ r.reservation, s.handler.hasEntry n (.addRod r.tag) = true) ∧
    ∀ p ∈ s.rod.slotRes, s.handler.hasEntry p.2 (.pullRod p.1) = true

/-- The rod that the head's stage says is in the handler's hands, if any (R8). -/
def HandlerUnit.inHands (h : HandlerUnit) : Option Nat :=
  match h.queue with
  | [] => none
  | e :: _ =>
    match e.op with
    | .addRod tag => if e.stage = .joining ∨ e.stage = .placing then some tag else none
    | .pullRod _ => if e.stage = .racking then h.headNote.bind (·.tag) else none
    | .transferHold _ => none

/-- The rod of an ADD ROD entry that has yet to take it, the entry QUEUED, WAITING or in SETTING, lies in the rack (R7,
R64, R75). -/
def RodUnit.keepsRacked (u : RodUnit) (e : Entry) : Bool :=
  match e.op with
  | .addRod tag =>
    !(e.stage == .queued || e.stage == .waiting || e.stage == .setting) || ((u.find tag).map (·.racked)).getD false
  | .pullRod _ => true
  | .transferHold _ => true

/-- The string has room for the rod of an ADD ROD head past WAITING that has yet to join it (R63, R75). -/
def HandlerUnit.roomFor (h : HandlerUnit) (u : RodUnit) : Bool :=
  match h.queue with
  | [] => true
  | e :: _ =>
    match e.op with
    | .addRod _ =>
      !(e.stage == .setting || e.stage == .joining || e.stage == .placing) || decide (u.members.length < 200)
    | .pullRod _ => true
    | .transferHold _ => true

/-- The queue is in order: four entries at most, numbered in turn, every entry but the head QUEUED and the head never
(R62, R63, R67), the head on a path of its kind, a transfer only in a stage that has one, a head note past WAITING (R69,
R71, R75 to R78). -/
abbrev HandlerUnit.inOrder (h : HandlerUnit) : Prop :=
  h.queue.length ≤ 4 ∧ h.numbersOk = true ∧ (∀ e ∈ h.queue.tail, e.stage = .queued) ∧
    (∀ e ∈ h.queue.head?, e.stage ≠ .queued) ∧
    (∀ e ∈ h.queue.head?, e.stage.working = true → pathOk e.op e.stage e.rest = true ∧ h.headNote.isSome = true) ∧
    (h.transfer.isSome = true → h.headStage = some .setting ∨ h.headStage = some .lifting)

/-- Every piece of steel is in one place and the handler's queue agrees with it: the rod unit agrees with itself, the
queue is in order, every entry holds its reservation, an ADD ROD that has yet to take its rod finds it in the rack, the
rod in the handler's hands has a record, and while the part runs every reservation belongs to an entry and a rod is
IN_TRANSFER exactly when the head's stage says that it is in the handler's hands (R2, R7, R8). -/
abbrev LocationsOk (s : State) : Prop :=
  s.rod.agrees ∧ s.handler.inOrder ∧ (∀ e ∈ s.handler.queue, s.rod.reserves e = true) ∧
    (∀ e ∈ s.handler.queue, s.rod.keepsRacked e = true) ∧ s.handler.roomFor s.rod = true ∧
    (∀ tag ∈ s.handler.inHands, (s.rod.find tag).isSome = true) ∧ (s.running = true → s.reservationsOwned) ∧
    (s.running = true → ∀ r ∈ s.rod.rods, r.location = .inTransfer ↔ s.handler.inHands = some r.tag)

/-! ## Views -/

/-- The state right after a request has been refused with a code: nothing but the held reply, with its length of 0, and
the engine is changed (R182, R184). -/
def State.refused (s : State) (code : ReplyCode) : State :=
  s.setPort { s.port with held := ⟨code, []⟩, engine := .idle }

/-- A command is refused with a code. -/
abbrev Refused (i : Instr) (s : State) (code : ReplyCode) : Prop := exec i s = .next (s.refused code)

/-- The port after a request of a state has completed: the held reply and the engine changed, nothing else (R181,
R182). -/
abbrev Replied (s t : State) (code : ReplyCode) (body : List Byte) : Prop :=
  t.port = { s.port with held := ⟨code, body⟩, engine := .idle }

/-- A request left everything but the rod table and the port as it was. -/
abbrev OnlyRods (s t : State) : Prop := t = (s.setRod { s.rod with rods := t.rod.rods }).setPort t.port

/-- What an abort of a head past WAITING for a reason makes of the entry behind it, where none may leave WAITING: it
becomes head and its head test is made; it waits, or ends ABORTED with INVALID (R63, R67, R82). -/
def NextBecomesHead (s t : State) (reason : AbortReason) : Prop :=
  ∀ (e next : Entry) (others : List Entry), s.handler.queue = e :: next :: others → e.stage.working = true →
    (∀ x ∈ next :: others, x.stage = .queued) →
    (s.headTest next.op = true →
      t.handler.queue = ⟨next.num, next.op, .waiting, []⟩ :: others ∧ t.handler.stageMs = 0 ∧
        t.handler.headNote = none ∧ t.handler.transfer = none ∧
        ∃ tag, t.handler.lastOutcome = some ⟨e.num, e.op.kind, some reason, tag⟩) ∧
    (s.headTest next.op = false → others = [] →
      t.handler.queue = [] ∧ ∃ tag, t.handler.lastOutcome = some ⟨next.num, next.op.kind, some .invalid, tag⟩)

/-- What a change of a pump's pumping state makes of the sweep state, at an event that counts no strokes and brings no
drilled length. A pump PUMPING stops the hold timer of a sweep in progress; the event at which none remains starts it
from 0, or with a hold time of 0 ends the sweep there with ENDED_HOLD, and a hold that runs stands (R103, R134, R136).
With none in progress the change is an evaluation event: a sweep starts, and asks for a survey, where one is owed, a pump
is PUMPING, no operation is past WAITING and the activity is not DRILLING (R99, R130). -/
def SweepFollowsPumps (s t : State) : Prop :=
  (∀ r, s.sweep.current = some r →
    (t.anyPumping = true → t.sweep = { s.sweep with current := some { r with holdMs := none } }) ∧
    (t.anyPumping = false → r.holdMs ≠ none → t.sweep = s.sweep) ∧
    (t.anyPumping = false → r.holdMs = none → s.config.sweepHold ≠ 0 →
      t.sweep = { s.sweep with current := some { r with holdMs := some 0 } }) ∧
    (t.anyPumping = false → r.holdMs = none → s.config.sweepHold = 0 →
      t.sweep = { s.sweep with
        current := none
        last := some ⟨.endedHold, s.activeSlot, r.target, some (r.progress / 100), s.sweep.overdue⟩ } ∧
      t.circ.survey = s.circ.survey.bind fun v => if v.readWaits = true then some { v with sweepWaits := false } else none)) ∧
  (s.sweep.current = none →
    (s.sweep.owed = false ∨ t.anyPumping = false ∨ s.handler.pastWaiting = true → t.sweep = s.sweep) ∧
    (s.sweep.owed = true → t.anyPumping = true → s.handler.pastWaiting = false → s.job.activity ≠ .drilling →
      t.job.activity ≠ .drilling →
      t.sweep = { s.sweep with current := some ⟨0, none, none⟩ } ∧
      t.circ.survey = some (match s.circ.survey with
        | some v => { v with sweepWaits := true }
        | none => ⟨s.surveyInputs, false, true, 0, 0⟩)))

/-! ### The hole, one millimetre at a time (R90 to R95, R168) -/

/-- The interval that holds a depth of the hole (R27). -/
def intervalOver (m : List Interval) (d : Nat) : Option Interval := m.find? fun i => decide (i.top ≤ d ∧ d < i.bottom)

/-- The diameter of the hole at a depth, that of the interval that holds the depth (R27, R91), or 0. -/
def holeAt (m : List Interval) (d : Nat) : Nat := ((intervalOver m d).map (·.diameter)).getD 0

/-- The member that stands a height above the bit, the members placed from the bit upward (R90). -/
def memberAbove : List Member → Nat → Option Member
  | [], _ => none
  | m :: ms, height => if height < m.length then some m else memberAbove ms (height - m.length)

/-- A sum over the depths below the datum and above a depth, a millimetre each. -/
def sumTo (depth : Nat) (f : Nat → Nat) : Nat := ((List.range depth).map f).sum

/-- A request left everything but the job table and the port as it was. -/
abbrev OnlyJobs (s t : State) : Prop := t = (s.setJob { s.job with jobs := t.job.jobs }).setPort t.port

/-- A request left everything but the port as it was. -/
abbrev OnlyPort (s t : State) : Prop := t = s.setPort t.port

/-- Every slot but one holds the job it held. -/
abbrev OtherSlots (n : Nat) (s t : State) : Prop := ∀ m ∈ jobSlots, m ≠ n → t.job.jobs.get m = s.job.jobs.get m

/-- Every record but that of one tag is as it was. -/
abbrev OtherRods (tag : Nat) (s t : State) : Prop := ∀ x, x ≠ tag → t.rod.find x = s.rod.find x

/-- What a map change leaves: the job table and the port apart, only the exhaustion mark, which clears with more than
8 free records (R26), and a running survey, which restarts if its inputs have changed (R35, R100). -/
def MapChange (s t : State) : Prop :=
  t = (((s.setJob { s.job with jobs := t.job.jobs }).setBore
      { s.bore with poolExhausted := s.bore.poolExhausted && decide (t.poolFree ≤ 8) }).setCirc
      { s.circ with survey := t.circ.survey }).setPort t.port ∧
    t.circ.survey = s.circ.survey.map fun v =>
      if v.snapshot = t.surveyInputs then v
      else { v with snapshot := t.surveyInputs, restarts := min (v.restarts + 1) 65535, elapsedMs := 0 }

/-- A request that edits the map of a slot replaces it and answers with a body (R37). -/
def EditsMap (i : Instr) (s : State) (slot : Nat) (j : Job) (m : List Interval) (body : State → List Byte) : Prop :=
  ∃ t, exec i s = .next t ∧ t.job.jobs.get slot = some { j with map := m } ∧ OtherSlots slot s t ∧ MapChange s t ∧
    Replied s t .done (body t)

/-- Steps 3 and 4 of the checks of a request that edits the map of a slot (R37). -/
def EditChecks (i : Instr) (s : State) (slot : Nat) : Prop :=
  (s.job.jobs.get slot = none → Refused i s .notFound) ∧
    ∀ j, s.job.jobs.get slot = some j → j.state = .priced ∨ j.state = .settled → Refused i s .locked

/-- A map with a booked volume added to the lost mud, or to the inflow, of its interval at a depth (R27, R36). -/
def BookedAt (j : Job) (depth volume : Nat) (loss : Bool) (m : List Interval) : Prop :=
  ∃ k i, j.map[k]? = some i ∧ ((i.top ≤ depth ∧ depth < i.bottom) ∨ (j.holeDepth ≤ depth ∧ k + 1 = j.map.length)) ∧
    m = j.map.set k (if loss = true then { i with lostMud := min (i.lostMud + volume) 4294967295 }
      else { i with inflow := min (i.inflow + volume) 4294967295 })

/-- What the hub line, the requests of other units and the pins own, which the work of the handler and the circulation
unit leaves as it is. -/
abbrev Elsewhere (s t : State) : Prop :=
  t.hub = s.hub ∧ t.pricing = s.pricing ∧ t.port = s.port ∧ t.config = s.config ∧ t.power = s.power ∧
    t.pending = s.pending

/-- The code with which a command is a host request; absent for the other events (the rule of each request). -/
def codeOf : Instr → Option Byte
  | .enterRod _ => some 0x10
  | .lookUpRod _ => some 0x11
  | .amendRod _ => some 0x12
  | .quarantineRod _ => some 0x13
  | .returnRod _ => some 0x14
  | .retireRod _ => some 0x15
  | .resolveRod _ => some 0x16
  | .listString _ => some 0x17
  | .readString _ => some 0x18
  | .newFormation _ => some 0x20
  | .lookUpInterval _ => some 0x21
  | .amendInterval _ => some 0x22
  | .splitInterval _ => some 0x23
  | .mergeIntervals _ => some 0x24
  | .setDiameterRange _ => some 0x25
  | .recordStrike _ => some 0x26
  | .clearStrike _ => some 0x27
  | .changeBit _ => some 0x28
  | .readLive _ _ _ _ => some 0x30
  | .addRod _ => some 0x40
  | .pullRod _ => some 0x41
  | .transferHold _ => some 0x42
  | .cancelHandler _ => some 0x43
  | .readHandler _ => some 0x44
  | .setPump _ => some 0x50
  | .readCirculation _ => some 0x51
  | .mudCheck _ => some 0x58
  | .rebaseBalance _ => some 0x59
  | .readBalance _ => some 0x5A
  | .requestSweep _ => some 0x60
  | .waiveSweep _ => some 0x61
  | .readSweep _ => some 0x62
  | .openJob _ => some 0x70
  | .completeJob _ => some 0x71
  | .lookUpJob _ => some 0x72
  | .retireJob _ _ => some 0x73
  | .enterRate _ _ => some 0x80
  | .amendRate _ _ => some 0x81
  | .retireRate _ _ => some 0x82
  | .lookUpRate _ => some 0x83
  | .priceJob _ => some 0x84
  | .pricingComplete => none
  | .readInvoiceLine _ => some 0x85
  | .releasePricing _ _ => some 0x86
  | .settleJob _ _ => some 0x87
  | .readAttention _ => some 0x01
  | .clearFaults _ => some 0x02
  | .readConfig _ => some 0x03
  | .setConfig _ => some 0x04
  | .unknownRequest c _ => some c
  | .exchangeBegin => none
  | .exchangeEnd _ _ => none
  | .frameArrival _ => none
  | .frameCutShort => none
  | .linkLoss => none
  | .strokeTimeout _ => none
  | .sweepHoldExpiry => none
  | .surveyComplete => none
  | .settleReached => none
  | .holderInputChange _ _ => none
  | .wrenchDoneRise => none
  | .rackedRise => none
  | .blankingEnd => none
  | .closedRunReachesTransferTime _ => none
  | .stageTimeout => none
  | .allstopFall => none
  | .allstopRise => none
  | .idleGraceExpiry => none
  | .standbyLimitExpiry => none
  | .secondMark => none
  | .rstFaultClearPulse _ => none
  | .resetEntry => none
  | .start _ => none
  | .determinationEnd => none
  | .mainPowerLoss => none
  | .retentionLostSet => none
  | .backupLowChange _ => none
  | .frameStart => none
  | .resetLineFall => none
  | .mainPowerReturnInReset => none

/-- Whether the arguments of a request decode: their length and every field in its range (R201). -/
def argsDecode : Instr → Bool
  | .enterRod a => (decodeEnterRod a).isSome
  | .lookUpRod a => (decodeTag a).isSome
  | .amendRod a => (decodeAmendRod a).isSome
  | .quarantineRod a => (decodeTag a).isSome
  | .returnRod a => (decodeReturnRod a).isSome
  | .retireRod a => (decodeTag a).isSome
  | .resolveRod a => (decodeResolveRod a).isSome
  | .listString a => (decodeListString a).isSome
  | .readString a => (noArgs a).isSome
  | .newFormation a => (decodeNewFormation a).isSome
  | .lookUpInterval a => (decodeLookUpInterval a).isSome
  | .amendInterval a => (decodeAmendInterval a).isSome
  | .splitInterval a => (decodeSlotDepth a).isSome
  | .mergeIntervals a => (decodeSlotDepth a).isSome
  | .setDiameterRange a => (decodeSetDiameterRange a).isSome
  | .recordStrike a => (decodeRecordStrike a).isSome
  | .clearStrike a => (decodeSlotDepth a).isSome
  | .changeBit a => (decodeChangeBit a).isSome
  | .readLive _ _ _ a => (noArgs a).isSome
  | .addRod a => (decodeTag a).isSome
  | .pullRod a => (decodePullRod a).isSome
  | .transferHold a => (decodeTransferHold a).isSome
  | .cancelHandler a => (noArgs a).isSome
  | .readHandler a => (noArgs a).isSome
  | .setPump a => (decodeSetPump a).isSome
  | .readCirculation a => (noArgs a).isSome
  | .mudCheck a => (decodeMudCheck a).isSome
  | .rebaseBalance a => (noArgs a).isSome
  | .readBalance a => (decodePage a).isSome
  | .requestSweep a => (noArgs a).isSome
  | .waiveSweep a => (noArgs a).isSome
  | .readSweep a => (noArgs a).isSome
  | .openJob a => (decodeOpenJob a).isSome
  | .completeJob a => (noArgs a).isSome
  | .lookUpJob a => (decodeLookUpJob a).isSome
  | .retireJob _ a => (decodeJobSlot a).isSome
  | .enterRate _ a => (decodeRate a).isSome
  | .amendRate _ a => (decodeRate a).isSome
  | .retireRate _ a => (decodeIndex a).isSome
  | .lookUpRate a => (decodeIndex a).isSome
  | .priceJob a => (decodeJobSlot a).isSome
  | .pricingComplete => true
  | .readInvoiceLine a => (decodeInvoiceLine a).isSome
  | .releasePricing _ a => (decodeJobSlot a).isSome
  | .settleJob _ a => (decodeJobSlot a).isSome
  | .readAttention a => (noArgs a).isSome
  | .clearFaults a => (noArgs a).isSome
  | .readConfig a => (decodeReadConfig a).isSome
  | .setConfig a => (decodeSetConfig a).isSome
  | .unknownRequest _ _ => true
  | .exchangeBegin => true
  | .exchangeEnd _ _ => true
  | .frameArrival _ => true
  | .frameCutShort => true
  | .linkLoss => true
  | .strokeTimeout _ => true
  | .sweepHoldExpiry => true
  | .surveyComplete => true
  | .settleReached => true
  | .holderInputChange _ _ => true
  | .wrenchDoneRise => true
  | .rackedRise => true
  | .blankingEnd => true
  | .closedRunReachesTransferTime _ => true
  | .stageTimeout => true
  | .allstopFall => true
  | .allstopRise => true
  | .idleGraceExpiry => true
  | .standbyLimitExpiry => true
  | .secondMark => true
  | .rstFaultClearPulse _ => true
  | .resetEntry => true
  | .start _ => true
  | .determinationEnd => true
  | .mainPowerLoss => true
  | .retentionLostSet => true
  | .backupLowChange _ => true
  | .frameStart => true
  | .resetLineFall => true
  | .mainPowerReturnInReset => true

/-- A request runs now: the part runs, and its engine is IDLE, so that the request is accepted, or holds this very
request (R181, log 1). False for a command that is no request. -/
def State.accepts (s : State) (i : Instr) : Bool :=
  match codeOf i, i.args? with
  | some code, some args => s.takes code args
  | _, _ => false

end Sys2Proof.Machine
end

