-- ==== Sys2Proof/Certificates/Slice0/Obligations.lean ====
section
/-! DEFINITION. The statements for the provers. Each docstring names the rules of spec/ it rests on, and the log entry
where a clause is the model's choice. A state accepts a request
where the part runs and its engine is IDLE or holds this very request (`State.accepts`, log 1). -/
open Sys2Proof Sys2Proof.Machine

/-! ## The machine -/

/-- A step takes the command at the front of the queue and runs exec on it with the queue's rest (log 35). -/
def Obligations.StepTakesFrontCommand : Prop :=
  ∀ (c : Instr) (rest : List Instr) (s : State), s.pending = c :: rest → step s = exec c (s.setPending rest)

/-- MODEL'S CHOICE (log 2, log 3). On an empty queue a part that does not run idles. A running part lets one
millisecond of its time base pass: every running timer advances by one (00, Time), and the events then due are taken in
some order. A stage timer runs past WAITING, a stroke timer while its pump is PUMPING, the idle and standby timers in
their activities; a timer that may be absent runs while it is present, and the port counts an accepted request's time. -/
def Obligations.EmptyQueueIsOneMillisecond : Prop :=
  ∀ s : State, s.pending = [] →
    (s.running = false → step s = .next s) ∧
    (s.running = true →
      (∃ o ∈ orders (TimerEvent.all.filter fun e => e.due (advance s)), ∃ n,
        step s = .next ((inOrder (o.map TimerEvent.take) (advance s)).setFreeCount n)) ∧
      let a := advance s
      a.circ.settleMs = s.circ.settleMs + 1 ∧ a.job.secondMs = s.job.secondMs + 1 ∧
      a.job.idleMs = (if s.job.activity = .idle then s.job.idleMs + 1 else s.job.idleMs) ∧
      a.job.standbyMs = (if s.job.activity = .standby then s.job.standbyMs + 1 else s.job.standbyMs) ∧
      a.hub.linkMs = s.hub.linkMs + 1 ∧ a.hub.sinceStartMs = s.hub.sinceStartMs.map (· + 1) ∧
      (∀ p, (a.hub.pump p).timerMs =
        if (s.hub.pump p).state = .pumping then (s.hub.pump p).timerMs + 1 else (s.hub.pump p).timerMs) ∧
      a.handler.stageMs = (if s.handler.pastWaiting = true then s.handler.stageMs + 1 else s.handler.stageMs) ∧
      a.handler.blankingMs = s.handler.blankingMs.map (· + 1) ∧
      a.handler.determinationMs = s.handler.determinationMs.map (· + 1) ∧
      (∀ h, a.handler.run h = (s.handler.run h).map (· + 1)) ∧
      a.handler.transfer = s.handler.transfer.map (fun r => { r with runMs := r.runMs.map (· + 1) }) ∧
      a.sweep = { s.sweep with current := s.sweep.current.map fun r => { r with holdMs := r.holdMs.map (· + 1) } } ∧
      a.circ.survey = s.circ.survey.map (fun v => { v with elapsedMs := v.elapsedMs + 1 }) ∧
      a.pricing = { s.pricing with working := s.pricing.working.map fun w => { w with elapsedMs := w.elapsedMs + 1 } } ∧
      a.port = { s.port with engine := match s.port.engine with
        | .accepted code args ms => .accepted code args (ms + 1)
        | other => other } ∧
      a.power = { s.power with rstLowMs := s.power.rstLowMs.map (· + 1) } ∧
      a.rod = s.rod ∧ a.bore = s.bore ∧ a.config = s.config ∧ a.pins = s.pins ∧ a.job.jobs = s.job.jobs)

/-- What State.reset holds: the values that the start rules give after a cold start (R24, R47, R61, R88, R106, R125,
R142, R157, R178, R193, R199), and with them every invariant. The pin levels are the model's choice (log 7). -/
def Obligations.ResetIsAColdStart : Prop :=
  State.reset.rod = ⟨[], [], [], 0, 0, none, false⟩ ∧ State.reset.poolFree = 128 ∧
  (∀ n ∈ jobSlots, State.reset.job.jobs.get n = none) ∧ State.reset.job.activity = .idle ∧
  State.reset.hub.linkUp = false ∧ State.reset.hub.anyStale = true ∧ State.reset.rotating = .unknown ∧
  State.reset.handler.queue = [] ∧ State.reset.handler.nextNum = 1 ∧ State.reset.handler.carrier = none ∧
  State.reset.handler.noPermit ∧ State.reset.handler.determinationMs = some 0 ∧ State.reset.pumpPermit = false ∧
  State.reset.circ.ref.valid = false ∧ State.reset.circ.survey = none ∧ State.reset.circ.lastBalance = none ∧
  State.reset.sweep = ⟨0, false, false, none, none⟩ ∧
  (∀ n < 32, State.reset.pricing.entry n = none) ∧ State.reset.pricing.unpriced = [] ∧
  State.reset.port.engine = .idle ∧ State.reset.port.held = ⟨.noneYet, []⟩ ∧ State.reset.port.exchange = .none ∧
  (∀ n < 256, ∀ i ∈ State.reset.config.item n, i.value = i.default) ∧
  State.reset.power.startMark = .cold ∧ State.reset.isPending .powerOn = true ∧ State.reset.isPending .sensor = true ∧
  State.reset.pending = [] ∧
  PermitsOk State.reset ∧ MapsOk State.reset ∧ PoolOk State.reset ∧ ActiveOk State.reset ∧ ConfigOk State.reset ∧ SweepOk State.reset ∧
  ReplyOk State.reset ∧ LocationsOk State.reset

/-! ## Invariants that every step keeps -/

/-- Over a string SLIPS_REL and ELEV_REL are never asserted together (R70), ROT_PERMIT never with WRENCH_PERMIT (R72,
R73), WRENCH_PERMIT only in JOINING or UNJOINING with SLIPS the carrier (R73), and no handler permit while ALLSTOP_N is
low (R83), HOLD_FAULT is latched (R80) or the part does not run (R195, R198). Its premise `LocationsOk`, which rules out
queues that no run reaches, is an invariant of its own (`SteelStaysInOnePlace`). -/
def Obligations.PermitsStaySafe : Prop :=
  ∀ s t : State, PermitsOk s → LocationsOk s → step s = .next t → PermitsOk t

/-- The intervals of every job's map cover the depths from 0 to its hole depth in depth order, without gap or overlap,
every one but the deepest at least 1 mm long (R27), a strike within its interval (R29), the hole at most 1,500,000 mm
deep (R32). -/
def Obligations.MapsStayCovering : Prop :=
  ∀ s t : State, MapsOk s → step s = .next t → MapsOk t

/-- The maps never hold more than the 128 records of the pool (R25), and at most one job is ACTIVE; while the string
holds any member one is (R144), as it is while an ADD ROD past WAITING is to bring a member (R63); the job of a running
pricing is COMPLETE (R167). The premise `LocationsOk` of the second is an invariant of its own
(`SteelStaysInOnePlace`). -/
def Obligations.PoolAndActiveJobStayBounded : Prop :=
  (∀ s t : State, PoolOk s → step s = .next t → PoolOk t) ∧
  (∀ s t : State, ActiveOk s → LocationsOk s → step s = .next t → ActiveOk t)

/-- Every configuration item stays within its range (R190, R192, R204), so that the masks of HOLD_FAULT and ALL_STOP
stay clear. A sweep in progress exists, and the overdue mark is set, only while the owed flag is set (R127). The
held reply is never NOT_READY, fits in 61 bytes, and has none with a refusal code (R182, R184); the queue holds at
most four entries (R62). -/
def Obligations.ItemsSweepAndReplyStayWellFormed : Prop :=
  (∀ s t : State, ConfigOk s → step s = .next t → ConfigOk t) ∧
  (∀ s t : State, SweepOk s → step s = .next t → SweepOk t) ∧
  (∀ s t : State, ReplyOk s → step s = .next t → ReplyOk t)

/-- Every rod record stays in one place, the rack, the string and the handler's queue agreeing with it: no rack slot
holds two rods, no slot is both occupied and reserved, at most one rod is IN_TRANSFER (R2), members have their
positions without a gap (R4), every entry of the queue holds its reservation, the rod of an ADD ROD that has yet to take
it lies in the rack and the rod in the handler's hands has a record, while the part runs every reservation belongs to an
entry (R7), and entry numbers follow one another, the head never QUEUED (R62, R63, R67). -/
def Obligations.SteelStaysInOnePlace : Prop :=
  ∀ s t : State, LocationsOk s → step s = .next t → LocationsOk t

/-- A step changes the rate table only in two ways. Either it carries out ENTER RATE, AMEND RATE or RETIRE RATE with the
keyswitch found on, as a command or, on an empty queue, as the accepted request that completes at its bound (R161, R162,
R181; log 2, log 4), or it is a start that finds the retention-lost latch set, which is cold (R178, R196). The table
keeps its 32 entries (R159). -/
def Obligations.RatesChangeUnderKeyswitchOnly : Prop :=
  ∀ s t : State, step s = .next t →
    (t.pricing.rates ≠ s.pricing.rates →
      (t.pins.rateKey = true ∧
        ((∃ args rest, s.pending = .enterRate true args :: rest ∨ s.pending = .amendRate true args :: rest ∨
            s.pending = .retireRate true args :: rest) ∨
          (s.pending = [] ∧ s.running = true ∧ ∃ (code : Byte) (args : List Byte) (ms : Nat),
            s.port.engine = .accepted code args ms ∧ (code = 0x80 ∨ code = 0x81 ∨ code = 0x82)))) ∨
      ((∃ l rest, s.pending = .start l :: rest) ∧ s.running = false ∧ s.power.retentionLost = true)) ∧
    (s.pricing.rates.length = 32 → t.pricing.rates.length = 32)

/-! ## Arguments and the request engine -/

/-- The arguments of SET CONFIG and of every request with more than two fields are read back from their bytes, most
significant first, for every value of every field (R14, R16, R20, R39, R40, R43, R44, R97, R146, R163, R192, R200, R201):
the fields of an absent optional one are not read. AMEND ROD's ID is 0..290 (MODEL'S CHOICE, log 39). -/
def Obligations.ArgumentsAreReadBack : Prop :=
  (∀ (tag length od id mass wear limit slot : Nat) (kind : RodKind),
    1 ≤ tag → tag ≤ 65534 → 1000 ≤ length → length ≤ 9600 → 40 ≤ od → od ≤ 300 → id + 10 ≤ od → 10 ≤ mass →
    mass ≤ 3000 → wear ≤ 65535 → 1 ≤ limit → limit ≤ 65000 → 1 ≤ slot → slot ≤ 200 →
    decodeEnterRod (be 2 tag ++ be 1 kind.code ++ be 2 length ++ be 2 od ++ be 2 id ++ be 2 mass ++ be 2 wear ++
      be 2 limit ++ be 1 slot) = some (⟨tag, kind, length, od, id, mass, wear * 1000, limit, .rack slot, none⟩, slot)) ∧
  (∀ x : RodAmendment, 1 ≤ x.tag → x.tag ≤ 65534 → (∀ v ∈ x.length, 1000 ≤ v ∧ v ≤ 9600) →
    (∀ v ∈ x.od, 40 ≤ v ∧ v ≤ 300) → (∀ v ∈ x.id, v ≤ 290) → (∀ v ∈ x.mass, 10 ≤ v ∧ v ≤ 3000) →
    (∀ v ∈ x.wear, v ≤ 65535) → (∀ v ∈ x.limit, 1 ≤ v ∧ v ≤ 65000) →
    decodeAmendRod (be 2 x.tag ++ opt 2 x.length ++ opt 2 x.od ++ opt 2 x.id ++ opt 2 x.mass ++ opt 2 x.wear ++
      opt 2 x.limit) = some x) ∧
  (∀ x : IntervalAmendment, 1 ≤ x.slot → x.slot ≤ 4 → x.depth ≤ maxDepth → (∀ v ∈ x.formation, v ≤ 11) →
    (∀ v ∈ x.hardness, 1 ≤ v ∧ v ≤ 8) → (∀ v ∈ x.diameter, 50 ≤ v ∧ v ≤ 900) →
    decodeAmendInterval (be 1 x.slot ++ be 4 x.depth ++ opt 1 x.formation ++ opt 1 x.hardness ++ opt 2 x.diameter) =
      some x) ∧
  (∀ x : DiameterRange, 1 ≤ x.slot → x.slot ≤ 4 → x.lo < x.hi → x.hi ≤ maxDepth → 50 ≤ x.diameter → x.diameter ≤ 900 →
    decodeSetDiameterRange (be 1 x.slot ++ be 4 x.lo ++ be 4 x.hi ++ be 2 x.diameter) = some x) ∧
  (∀ (slot : Nat) (k : Strike), 1 ≤ slot → slot ≤ 4 → k.depth ≤ maxDepth →
    (∀ v ∈ k.level, -30000 ≤ v ∧ v ≤ 1500000) → (∀ v ∈ k.yield, v ≤ 10000) →
    decodeRecordStrike (be 1 slot ++ be 4 k.depth ++ optInt 4 k.level ++ opt 2 k.yield) = some (slot, k)) ∧
  (∀ x : NewJob, x.customer < 4294967296 → (∀ v ∈ x.site, v.length = 16 ∧ isText v = true) → 1000 ≤ x.bandWidth →
    x.bandWidth ≤ 500000 → 50 ≤ x.bit → x.bit ≤ 900 →
    decodeOpenJob (be 4 x.customer ++ optText 16 x.site ++ be 4 x.bandWidth ++ be 2 x.bit) = some x) ∧
  (∀ (index : Nat) (e : RateEntry), index ≤ 31 → (∀ f ∈ e.hardness, 1 ≤ f.1 ∧ f.1 ≤ f.2 ∧ f.2 ≤ 8) →
    (∀ f ∈ e.band, f.1 ≤ f.2 ∧ f.2 ≤ 15) → (∀ f ∈ e.diameter, 50 ≤ f.1 ∧ f.1 ≤ f.2 ∧ f.2 ≤ 900) →
    (∀ a ∈ e.activity, a ≤ 7) → e.rate ≤ 1000000 → (∀ v ∈ e.label, v.length = 12 ∧ isText v = true) →
    decodeRate (be 1 index ++ rateFields e) = some (index, e)) ∧
  (∀ (p : Pump) (disp eff : Nat), disp < 65536 → eff < 256 →
    decodeSetPump (be 1 (pumpNumber p) ++ be 2 disp ++ be 1 eff) = some (p, disp, eff)) ∧
  (∀ n v : Nat, n < 256 → v < 4294967296 → decodeSetConfig (be 1 n ++ be 4 v) = some (n, v)) ∧
  (∀ tag slot : Nat, 1 ≤ tag → tag ≤ 65534 →
    (1 ≤ slot → slot ≤ 200 → decodeResolveRod (be 2 tag ++ be 1 0 ++ be 1 slot) = some (tag, .rack slot)) ∧
    decodeResolveRod (be 2 tag ++ be 1 1 ++ be 1 0) = some (tag, .stringTop) ∧
    decodeResolveRod (be 2 tag ++ be 1 2 ++ be 1 0) = some (tag, .quarantine)) ∧
  (∀ slot v : Nat, 1 ≤ slot → slot ≤ 4 →
    (v ≤ maxDepth → decodeLookUpInterval (be 1 slot ++ be 1 0 ++ be 4 v) = some (slot, .byDepth v)) ∧
    (v < 4294967296 → decodeLookUpInterval (be 1 slot ++ be 1 1 ++ be 4 v) = some (slot, .byOrdinal v)))

/-- The argument bytes of every request that pass the checks before any other test: each request has one argument length,
and every field lies within the range of its rule, a presence byte is 0 or 1, a CODE is of its enumeration, a TEXT's
characters are 0x20..0x7E, and a signed level is read in two's complement; the bytes of an absent field are not read
(R13, R37, R145, R162, R201 and the rule of each request). AMEND ROD's ID is 0..290 (MODEL'S CHOICE, log 39). -/
def Obligations.ArgumentsAreChecked : Prop :=
  ∀ args : List Byte,
    let n (off width : Nat) : Nat := ((args.drop off).take width).foldl (fun v b => v * 256 + b.toNat) 0
    let within (off width lo hi : Nat) : Prop := lo ≤ n off width ∧ n off width ≤ hi
    let ifPresent (off : Nat) (p : Prop) : Prop := n off 1 = 0 ∨ (n off 1 = 1 ∧ p)
    let filter (off width lo hi : Nat) : Prop := ifPresent off (within (off + 1) width lo hi ∧
      within (off + 1 + width) width lo hi ∧ n (off + 1) width ≤ n (off + 1 + width) width)
    let isText (off width : Nat) : Prop := ∀ b ∈ (args.drop off).take width, 0x20 ≤ b.toNat ∧ b.toNat ≤ 0x7E
    let tag : Prop := within 0 2 1 65534
    let slot : Prop := within 0 1 1 4
    let depth (off : Nat) : Prop := within off 4 0 1500000
    let rate : Prop := within 0 1 0 31 ∧ within 1 1 0 4 ∧ filter 2 1 1 8 ∧ filter 5 1 0 15 ∧ filter 8 2 50 900 ∧
      ifPresent 13 (within 14 1 0 7) ∧ within 15 4 0 1000000 ∧ ifPresent 19 (isText 20 12)
    let takes (i : Instr) (length : Nat) (fields : Prop) : Prop := argsDecode i = true ↔ args.length = length ∧ fields
    (takes (.enterRod args) 16 (tag ∧ within 2 1 0 2 ∧ within 3 2 1000 9600 ∧ within 5 2 40 300 ∧
      n 7 2 + 10 ≤ n 5 2 ∧ within 9 2 10 3000 ∧ within 11 2 0 65535 ∧ within 13 2 1 65000 ∧ within 15 1 1 200)) ∧
    (takes (.amendRod args) 20 (tag ∧ ifPresent 2 (within 3 2 1000 9600) ∧ ifPresent 5 (within 6 2 40 300) ∧
      ifPresent 8 (within 9 2 0 290) ∧ ifPresent 11 (within 12 2 10 3000) ∧ ifPresent 14 (within 15 2 0 65535) ∧
      ifPresent 17 (within 18 2 1 65000))) ∧
    (∀ i ∈ [Instr.lookUpRod args, .quarantineRod args, .retireRod args, .addRod args], takes i 2 tag) ∧
    (takes (.returnRod args) 3 (tag ∧ within 2 1 1 200)) ∧
    (takes (.resolveRod args) 4 (tag ∧
      ((n 2 1 = 0 ∧ within 3 1 1 200) ∨ ((n 2 1 = 1 ∨ n 2 1 = 2) ∧ n 3 1 = 0)))) ∧
    (∀ i ∈ [Instr.listString args, .pullRod args], takes i 1 (within 0 1 1 200)) ∧
    (takes (.newFormation args) 2 (within 0 1 0 11 ∧ within 1 1 1 8)) ∧
    (takes (.lookUpInterval args) 6 (slot ∧ ((n 1 1 = 0 ∧ depth 2) ∨ n 1 1 = 1))) ∧
    (takes (.amendInterval args) 12 (slot ∧ depth 1 ∧ ifPresent 5 (within 6 1 0 11) ∧ ifPresent 7 (within 8 1 1 8) ∧
      ifPresent 9 (within 10 2 50 900))) ∧
    (∀ i ∈ [Instr.splitInterval args, .mergeIntervals args, .clearStrike args], takes i 5 (slot ∧ depth 1)) ∧
    (takes (.setDiameterRange args) 11 (slot ∧ depth 1 ∧ depth 5 ∧ n 1 4 < n 5 4 ∧ within 9 2 50 900)) ∧
    (takes (.recordStrike args) 13 (slot ∧ depth 1 ∧
      ifPresent 5 (n 6 4 ≤ 1500000 ∨ 4294967296 - 30000 ≤ n 6 4) ∧ ifPresent 10 (within 11 2 0 10000))) ∧
    (takes (.changeBit args) 2 (within 0 2 50 900)) ∧
    (takes (.transferHold args) 1 (n 0 1 = 1 ∨ n 0 1 = 2)) ∧
    (takes (.setPump args) 4 (n 0 1 = 1 ∨ n 0 1 = 2)) ∧ (takes (.mudCheck args) 2 True) ∧
    (takes (.readBalance args) 1 (within 0 1 0 1)) ∧
    (takes (.openJob args) 27 (ifPresent 4 (isText 5 16) ∧ within 21 4 1000 500000 ∧ within 25 2 50 900)) ∧
    (takes (.lookUpJob args) 2 (within 0 1 0 4 ∧ within 1 1 0 1)) ∧
    (takes (.readInvoiceLine args) 2 (slot ∧ within 1 1 1 36)) ∧ (takes (.priceJob args) 1 slot) ∧
    (takes (.lookUpRate args) 1 (within 0 1 0 31)) ∧ (takes (.readConfig args) 1 True) ∧
    (takes (.setConfig args) 5 True) ∧
    (∀ key, takes (.enterRate key args) 32 rate ∧ takes (.amendRate key args) 32 rate ∧
      takes (.retireRate key args) 1 (within 0 1 0 31) ∧
      ∀ i ∈ [Instr.retireJob key args, .releasePricing key args, .settleJob key args], takes i 1 slot) ∧
    (∀ a b c, takes (.readLive a b c args) 0 True) ∧
    (∀ i ∈ [Instr.readString args, .cancelHandler args, .readHandler args, .readCirculation args, .rebaseBalance args,
      .requestSweep args, .waiveSweep args, .readSweep args, .completeJob args, .readAttention args, .clearFaults args],
      takes i 0 True)

/-- A request whose argument bytes are of another length, or hold a field out of its range, is refused with
OUT_OF_RANGE before any other test and changes nothing else (R13, R37, R145, R162, R201; which bytes those are
`ArgumentsAreChecked` says). A request that finds the
engine BUSY with another is discarded: the busy discard count advances, stopping at 255, and nothing else changes (R183,
R188). A part that does not run takes no command but START and the power and VBAK events (R193, R195; log 17). A request
whose code names no request completes with UNKNOWN_REQUEST (R184). A command UNKNOWN_REQUEST whose code is 0x00 or does
name a request is no event of the spec, and the model refuses it (MODEL'S CHOICE, log 24). -/
def Obligations.RequestsNotCarriedOut : Prop :=
  (∀ (i : Instr) (s : State), s.accepts i = true → argsDecode i = false → Refused i s .outOfRange) ∧
  (∀ (i : Instr) (s : State), i.wellFormed = true → (codeOf i).isSome = true → s.running = true → s.accepts i = false →
    exec i s = .next (s.setPort { s.port with discards := min (s.port.discards + 1) 255 })) ∧
  (∀ (i : Instr) (s : State), i.wellFormed = true → s.running = false → (∀ l, i ≠ .start l) → i ≠ .mainPowerLoss →
    i ≠ .mainPowerReturnInReset → i ≠ .retentionLostSet → (∀ b, i ≠ .backupLowChange b) → exec i s = .next s) ∧
  (∀ (code : Byte) (args : List Byte) (s : State), code ≠ 0 → code ∉ requestCodes → s.takes code args = true →
    Refused (.unknownRequest code args) s .unknownRequest) ∧
  (∀ (code : Byte) (args : List Byte) (s : State), code = 0 ∨ code ∈ requestCodes →
    exec (.unknownRequest code args) s = .refused .codeNamesARequest)

/-! ## The record port, attention and the configuration store -/

/-- EXCHANGE_BEGIN makes the snapshot: the held reply, or NOT_READY with the engine BUSY, and the status summary with
its bits (R179, R182, R186); the port then clocks out the summary, the reply code, the length, the body and 0x00 for
every further byte. -/
def Obligations.ExchangeBeginTakesSnapshot : Prop :=
  (∀ s : State, s.running = true → s.port.exchange = .none → ∃ (summary : Byte) (r : Reply),
    exec .exchangeBegin s = .next (s.setPort { s.port with exchange := .open summary r }) ∧
    (s.port.engine = .idle → r = s.port.held) ∧ (s.port.engine ≠ .idle → r = ⟨.notReady, []⟩) ∧
    (128 ≤ summary.toNat ↔ ∃ c, s.isPending c = true ∧ s.config.isMasked c = false) ∧
    (summary.toNat / 64 % 2 = 1 ↔ s.port.engine ≠ .idle) ∧
    (summary.toNat / 32 % 2 = 1 ↔ s.handler.holdFault = true ∨ s.handler.handlerFault = true) ∧
    (summary.toNat % 32 = 0 ∨
      ∃ c, s.isPending c = true ∧ s.config.isMasked c = false ∧ summary.toNat % 32 = c.number) ∧
    (∀ c, s.isPending c = true → s.config.isMasked c = false →
      1 ≤ summary.toNat % 32 ∧ summary.toNat % 32 ≤ c.number) ∧
    (s.setPort { s.port with exchange := .open summary r }).pdo =
      .bytes (summary :: r.code.byte :: BitVec.ofNat 8 r.body.length :: r.body) ∧
    (∀ n, (s.setPort { s.port with exchange := .open summary r }).pdo.byte n = some (match n with
      | 0 => summary
      | 1 => r.code.byte
      | 2 => BitVec.ofNat 8 r.body.length
      | k + 3 => if h : k < r.body.length then r.body[k] else 0x00))) ∧
  (∀ s : State, s.running = true → s.port.exchange ≠ .none → exec .exchangeBegin s = .next s)

/-- EXCHANGE_END classifies the bytes in the order of R180: a malformed exchange raises PORT_ERROR, counts and leaves
its kind (R188); an empty exchange and a POLL change nothing; a request is accepted if its summary showed the engine
not busy, and discarded for BUSY otherwise (R181, R183). A READ CIRCULATION asks for its survey at its acceptance, and
with argument bytes is refused at once (R99, R104); every other request changes its records at its completion (R181),
which its own row of the table is (MODEL'S CHOICE, log 1).
An exchange that was ignored ends without effect (R193). -/
def Obligations.ExchangeEndClassifiesBytes : Prop :=
  ∀ (s : State), s.running = true →
    (∀ bytes bits, s.port.exchange = .none → exec (.exchangeEnd bytes bits) s = .next s) ∧
    (∀ bytes bits, s.port.exchange = .ignored →
      exec (.exchangeEnd bytes bits) s = .next (s.setPort { s.port with exchange := .none })) ∧
    (∀ (summary : Byte) (r : Reply), s.port.exchange = .open summary r →
      let malformed (kind : MalformedKind) : Host.Outcome State Fault Refusal := .next (s.setPort { s.port with
        exchange := .none, portError := true, errors := min (s.port.errors + 1) 255, lastKind := kind })
      (∀ bytes bits, bits ≠ 0 → exec (.exchangeEnd bytes bits) s = malformed .partialByte) ∧
      exec (.exchangeEnd [] 0) s = .next (s.setPort { s.port with exchange := .none }) ∧
      (∀ rest, exec (.exchangeEnd (0 :: rest) 0) s = .next (s.setPort { s.port with exchange := .none })) ∧
      (∀ c : Byte, c ≠ 0 → exec (.exchangeEnd [c] 0) s = malformed .short) ∧
      (∀ (c n : Byte) (args : List Byte), c ≠ 0 → 62 < n.toNat →
        exec (.exchangeEnd (c :: n :: args) 0) s = malformed .lengthRange) ∧
      (∀ (c n : Byte) (args : List Byte), c ≠ 0 → n.toNat ≤ 62 → args.length < n.toNat →
        exec (.exchangeEnd (c :: n :: args) 0) s = malformed .short) ∧
      (∀ (c n : Byte) (args : List Byte), c ≠ 0 → n.toNat ≤ 62 → n.toNat < args.length →
        exec (.exchangeEnd (c :: n :: args) 0) s = malformed .long) ∧
      (∀ (c n : Byte) (args : List Byte), c ≠ 0 → n.toNat ≤ 62 → args.length = n.toNat →
        exec (.exchangeEnd (c :: n :: args) 0) s =
          if summary.toNat / 64 % 2 = 0 ∧ s.port.engine = .idle then
            if c ≠ 0x51 then .next (s.setPort { s.port with exchange := .none, engine := .accepted c args 0 })
            else if args ≠ [] then .next (s.setPort { s.port with exchange := .none, held := ⟨.outOfRange, []⟩ })
            else .next ((s.setPort { s.port with exchange := .none, engine := .accepted c [] 0 }).setCirc { s.circ with
              survey := some (match s.circ.survey with
                | some v => { v with readWaits := true }
                | none => ⟨s.surveyInputs, true, false, 0, 0⟩) })
          else .next (s.setPort { s.port with exchange := .none, discards := min (s.port.discards + 1) 255 })))

/-- READ ATTENTION reports each cause with its pending state in bit 0 and its mask in bit 1, then the marks and counts,
as they stand before it clears ROD_WORN, POWER_ON with its mark, PORT_ERROR and the port counts (R187). READ HANDLER
reports the queue's entries, for a head past WAITING its time and transfer, the carrier, the permits and the blanking,
the latches and the last outcome (R67, R85; widths by log 13, MODEL'S CHOICE); it clears HANDLER_DONE and changes
nothing else. READ LIVE reports each quantity with its mark and invalid count, the link and the time since the last
frame start, pumping and rotating states, the inputs as sampled at the request, the frame counts and the resyncs (R60,
the levels without a row of their own by log 4), and changes nothing else. -/
def Obligations.ReadersThatClearOrSample : Prop :=
  (∀ s : State, s.accepts (.readAttention []) = true →
    exec (.readAttention []) s = .next (((s.setRod { s.rod with rodWorn := false }).setPower
      { s.power with startMark := .none }).setPort { s.port with
        held := ⟨.done, attentionBody s⟩, engine := .idle, portError := false, errors := 0, lastKind := .none,
        discards := 0 }) ∧
    (attentionBody s).length = 24 ∧
    (∀ c : Cause, (attentionBody s)[c.number - 1]? =
      some (BitVec.ofNat 8 ((s.isPending c).toNat + 2 * (s.config.isMasked c).toNat))) ∧
    (attentionBody s).drop 19 = flag s.bore.poolExhausted ++ be 1 s.power.startMark.code ++ be 1 s.port.errors ++
      be 1 s.port.lastKind.code ++ be 1 s.port.discards) ∧
  (∀ s : State, s.accepts (.readHandler []) = true →
    let on (b : Bool) : List Byte := be 1 (if b then 1 else 0)
    let h := s.handler
    exec (.readHandler []) s = .next ((s.setHandler { s.handler with handlerDone := false }).setPort
      { s.port with engine := .idle, held := ⟨.done,
        be 1 h.queue.length ++
          (h.queue.map fun e => be 1 e.num ++ be 1 e.op.kind.code ++ be 2 (match e.op with
            | .addRod tag => tag
            | .pullRod slot => slot
            | .transferHold x => holderCode x) ++ be 1 e.stage.code).flatten ++
          (if h.pastWaiting = true then be 4 (min h.stageMs 4294967295) ++ on h.transfer.isSome ++
            be 1 (carrierCode (h.transfer.map (·.target))) else []) ++
          be 1 (carrierCode h.carrier) ++ on h.slipsRel ++ on h.elevRel ++ on h.rotPermit ++ on h.wrenchPermit ++
          on s.pumpPermit ++ on s.pumpPermit ++ on h.blankingMs.isSome ++ on h.holdFault ++ on h.handlerFault ++
          (match h.lastOutcome with
            | some o => [1] ++ be 1 o.num ++ be 1 o.kind.code ++ be 1 (if o.reason = none then 0 else 1) ++
                opt 1 (o.reason.map AbortReason.code) ++ opt 2 o.tag
            | none => List.replicate 9 0)⟩ })) ∧
  (∀ (s : State) (wrenchDone racked rateKey : Bool), s.accepts (.readLive wrenchDone racked rateKey []) = true →
    ∃ t, exec (.readLive wrenchDone racked rateKey []) s = .next t ∧
      t = (s.setPins { s.pins with wrenchDone := wrenchDone, racked := racked, rateKey := rateKey }).setPort t.port ∧
      let on (b : Bool) : List Byte := be 1 (if b then 1 else 0)
      let live (q : Quantity) : List Byte := be 2 q.value ++ on (decide (q.invalid < 25)) ++ be 1 q.invalid
      let h := s.hub
      Replied s t .done (live h.strokesA ++ live h.strokesB ++ live h.pitLevel ++ live h.hookLoad ++ live h.stickUp ++
        live h.rotary ++ live h.density ++ on h.linkUp ++
        be 2 (match h.sinceStartMs with
          | some ms => min ms 65535
          | none => 65535) ++
        be 1 h.pumpA.state.code ++ be 1 h.pumpB.state.code ++ be 1 s.rotating.code ++ on s.pins.slipsClosed ++
        on s.pins.elevClosed ++ on wrenchDone ++ on racked ++ on s.pins.allstopN ++ on rateKey ++ be 2 h.frames ++
        be 2 h.notGood ++ be 2 h.shortFrames ++ be 2 h.pumpA.resyncs ++ be 2 h.pumpB.resyncs))

/-- When the nineteen causes are pending. WEIGHT_MISMATCH: over a string carried by the elevator,
with the slips confirmed open and a fresh hook load, while it differs from the expected one, floor(M × 981 × (7850 −
density) ÷ 7,850,000,000) and the block weight, by more than the margin (R11, R12). POOL: while 8 or fewer of the 128
records are free (R25, R26). ROD_UNCERTAIN: while any record is UNCERTAIN (R8). SENSOR: while the link is DOWN or a
quantity is stale (R59). BACKUP_LOW: while main power is present and VBAK is low (R197). POWER_ON: while the start mark
is not NONE (R187). HOLD_FAULT and HANDLER_FAULT follow their latches (R80, R81), GAIN, LOSS and PIT_LOW the states of
R113 and R115, and SWEEP_DUE, SWEEP_OVERDUE, DEPTH_DISAGREE, UNPRICED, ALL_STOP, HANDLER_DONE, ROD_WORN and PORT_ERROR
the flag, mark, set or input of their block (R10, R34, R67, R83, R129, R174, R188). ATTN_N is low while the part runs and
a cause is pending and not masked (R186). -/
def Obligations.CausesArePending : Prop :=
  ∀ s : State,
    (s.isPending .weightMismatch = true ↔
      s.rod.members ≠ [] ∧ s.handler.carrier = some .elevator ∧ s.pins.slipsClosed = false ∧
      s.handler.blankingMs = none ∧ s.hub.hookLoad.invalid < 25 ∧
      let density := if s.hub.density.invalid < 25 then s.hub.density.value else s.config.mudDensity
      let expected := s.rod.massSum * 981 * (7850 - density) / 7850000000 + s.config.blockWeight
      s.config.weightMargin < ((s.hub.hookLoad.value : Int) - (expected : Nat)).natAbs) ∧
    (s.isPending .pool = true ↔ 120 ≤ (jobSlots.map s.job.jobs.intervalsAt).sum) ∧
    (s.isPending .rodUncertain = true ↔ ∃ r ∈ s.rod.rods, r.location = .uncertain) ∧
    (s.isPending .sensor = false ↔ s.hub.linkUp = true ∧
      ∀ q ∈ [s.hub.strokesA, s.hub.strokesB, s.hub.pitLevel, s.hub.hookLoad, s.hub.stickUp, s.hub.rotary, s.hub.density],
        q.invalid < 25) ∧
    (s.isPending .depthDisagree = s.bore.depthDisagree) ∧ (s.isPending .sweepDue = s.sweep.owed) ∧
    (s.isPending .sweepOverdue = s.sweep.overdue) ∧ (s.isPending .unpriced = true ↔ s.pricing.unpriced ≠ []) ∧
    (s.isPending .allStop = true ↔ s.pins.allstopN = false) ∧
    (s.isPending .holdFault = s.handler.holdFault) ∧ (s.isPending .handlerFault = s.handler.handlerFault) ∧
    (s.isPending .handlerDone = s.handler.handlerDone) ∧ (s.isPending .gain = s.circ.gain) ∧
    (s.isPending .loss = s.circ.loss) ∧ (s.isPending .pitLow = s.circ.pitLow) ∧
    (s.isPending .rodWorn = s.rod.rodWorn) ∧ (s.isPending .portError = s.port.portError) ∧
    (s.isPending .powerOn = true ↔ s.power.startMark ≠ .none) ∧
    (s.isPending .backupLow = true ↔ s.power.phase ≠ .off ∧ s.pins.vbakLow = true) ∧
    (s.attnN = false ↔ s.running = true ∧ ∃ c, s.isPending c = true ∧ c ∉ s.config.masked)

/-- CLEAR FAULTS clears HANDLER_FAULT, and HOLD_FAULT unless the carrier's input is low (R80, R81, R189); with neither
latch set it changes nothing but the reply. A low pulse on RST_N of 1 ms to less than 200 ms does the same to the
latches without a reply; a shorter one does nothing (R198), and a longer one is no fault clear (log 26). The reply
carries the latches, the carrier and the level of its input, 0 with the carrier NONE (MODEL'S CHOICE, log 16). -/
def Obligations.FaultsClear : Prop :=
  let on (b : Bool) : List Byte := be 1 (if b then 1 else 0)
  let body (u : State) : List Byte := on u.handler.holdFault ++ on u.handler.handlerFault ++
    be 1 (carrierCode u.handler.carrier) ++ on (match u.handler.carrier with
      | some h => u.pins.closed h
      | none => false)
  (∀ s : State, s.accepts (.clearFaults []) = true → s.handler.anyFault = false →
    ∃ t, exec (.clearFaults []) s = .next t ∧ OnlyPort s t ∧ Replied s t .done (body s)) ∧
  (∀ s : State, s.accepts (.clearFaults []) = true → s.handler.anyFault = true →
    ∃ t, exec (.clearFaults []) s = .next t ∧ t.handler.handlerFault = false ∧
      (t.handler.holdFault = true ↔ s.handler.holdFault = true ∧ ∃ h, s.handler.carrier = some h ∧ s.pins.closed h = false) ∧
      t.handler.carrier = s.handler.carrier ∧ t.rod.members = s.rod.members ∧ t.pins = s.pins ∧ t.hub = s.hub ∧
      t.pricing = s.pricing ∧ t.config = s.config ∧ t.power = s.power ∧ Replied s t .done (body t)) ∧
  (∀ (s : State) (ms : Nat), s.running = true → 1 ≤ ms → ms < 200 →
    ∃ t, exec (.rstFaultClearPulse ms) s = .next t ∧ t.handler.handlerFault = false ∧
      (t.handler.holdFault = true ↔ s.handler.holdFault = true ∧ ∃ h, s.handler.carrier = some h ∧ s.pins.closed h = false) ∧
      t.handler.carrier = s.handler.carrier ∧ t.rod.members = s.rod.members ∧ t.pins = s.pins ∧ t.hub = s.hub ∧
      t.pricing = s.pricing ∧ t.config = s.config ∧ t.port = s.port ∧
      t.power = { s.power with rstLowMs := none }) ∧
  (∀ s : State, s.running = true →
    exec (.rstFaultClearPulse 0) s = .next (s.setPower { s.power with rstLowMs := none })) ∧
  (∀ (s : State) (ms : Nat), s.running = true → 200 ≤ ms → exec (.rstFaultClearPulse ms) s = .next s)

/-- LOOK UP ROD reports one record (R15), LOOK UP RATE one valid entry (R166), READ CONFIG one item with its bounds and
default (R191); what the request names and does not exist is refused with NOT_FOUND. LIST STRING, READ STRING, LOOK
UP INTERVAL, READ BALANCE and READ SWEEP report (R21, R22, R39, R123, R140): LIST STRING gives the member count and
at most six members; READ STRING the string, its depths, steel, hook load and weight check (R11, R12); LOOK UP
INTERVAL chooses by depth (R27) or ordinal and appends the penetration rate, floor(length × 3600 ÷ drilling
seconds), absent with none; READ BALANCE the balance, measured less expected (R108, R110), the settled state (R111)
and the pump permits (R116), or the last record (R118; MODEL'S CHOICE in its handler entry's presence byte, log 41);
READ SWEEP the sweep's state, its progress in 6 bytes (R200), with the other widths of log 15 (MODEL'S CHOICE). Each
changes nothing. The interval record, `intervalBody` in every reply that carries one, is the 42 bytes of R202, and
the rod record, `rodBody`, its 24. -/
def Obligations.RecordsAndReportsAreRead : Prop :=
  (∀ (s : State) (slot ordinal : Nat) (i : Interval), intervalBody s slot ordinal i =
    be 1 slot ++ be 1 ordinal ++ be 1 (((s.job.jobs.get slot).map (·.map.length)).getD 0) ++
      be 1 (128 - (jobSlots.map s.job.jobs.intervalsAt).sum) ++ be 4 i.top ++ be 4 i.bottom ++ be 1 i.formation ++
      be 1 i.hardness ++ be 2 i.diameter ++ be 4 i.drillSec ++ be 4 i.lostMud ++ be 4 i.inflow ++
      be 1 (if i.mismatch = true then 1 else 0) ++
      (match i.strike with
        | some k => [1] ++ be 4 k.depth ++ optInt 4 k.level ++ opt 2 k.yield
        | none => List.replicate 13 0)) ∧
  (∀ r : RodRecord, rodBody r =
    be 2 r.tag ++ be 1 r.kind.code ++ be 2 r.length ++ be 2 r.od ++ be 2 r.id ++ be 2 r.mass ++
      be 2 (r.wearMilli / 1000) ++ be 4 r.wearMilli ++ be 2 r.wearLimit ++
      be 1 (if r.wearMilli / 1000 < r.wearLimit then 0 else 1) ++ be 1 r.location.code ++ be 1 r.location.place ++
      opt 1 r.reservation) ∧
  (∀ (s : State) (tag : Nat), 1 ≤ tag → tag ≤ 65534 → s.accepts (.lookUpRod (be 2 tag)) = true →
    (s.rod.find tag = none → Refused (.lookUpRod (be 2 tag)) s .notFound) ∧
    (∀ r, s.rod.find tag = some r →
      exec (.lookUpRod (be 2 tag)) s = .next (s.setPort { s.port with engine := .idle, held := ⟨.done,
        be 2 r.tag ++ be 1 r.kind.code ++ be 2 r.length ++ be 2 r.od ++ be 2 r.id ++ be 2 r.mass ++
          be 2 (r.wearMilli / 1000) ++ be 4 r.wearMilli ++ be 2 r.wearLimit ++
          be 1 (if r.wearMilli / 1000 < r.wearLimit then 0 else 1) ++ be 1 r.location.code ++ be 1 r.location.place ++
          opt 1 r.reservation⟩ }))) ∧
  (∀ (s : State) (index : Nat), index ≤ 31 → s.accepts (.lookUpRate (be 1 index)) = true →
    (s.pricing.entry index = none → Refused (.lookUpRate (be 1 index)) s .notFound) ∧
    (∀ e, s.pricing.entry index = some e →
      exec (.lookUpRate (be 1 index)) s = .next (s.setPort { s.port with engine := .idle, held := ⟨.done,
        be 1 index ++ [1] ++ rateFields e ++ be 1 (s.useCount index)⟩ }))) ∧
  (∀ (s : State) (n : Nat), n < 256 → s.accepts (.readConfig (be 1 n)) = true →
    (s.config.item n = none → Refused (.readConfig (be 1 n)) s .notFound) ∧
    (∀ i, s.config.item n = some i →
      exec (.readConfig (be 1 n)) s = .next (s.setPort { s.port with engine := .idle, held := ⟨.done,
        be 1 n ++ be 4 i.value ++ be 4 i.lo ++ be 4 i.hi ++ be 4 i.default⟩ }))) ∧
  (∀ (s : State) (args : List Byte), args.length ≠ 1 → s.accepts (.readConfig args) = true →
    Refused (.readConfig args) s .outOfRange) ∧
  (∀ (s : State) (start : Nat), 1 ≤ start → start ≤ 200 → s.accepts (.listString (be 1 start)) = true →
    exec (.listString (be 1 start)) s = .next (s.setPort { s.port with engine := .idle, held := ⟨.done,
      be 1 s.rod.members.length ++
        ((((s.rod.memberRecords.drop (start - 1)).take 6).zipIdx start).map fun p =>
          be 1 p.2 ++ be 2 p.1.tag ++ be 1 p.1.kind.code ++ be 2 p.1.length ++ be 2 p.1.od ++
            be 1 p.1.status.code).flatten⟩ })) ∧
  (∀ s : State, s.accepts (.readString []) = true →
    let density := if s.hub.density.invalid < 25 then s.hub.density.value else s.config.mudDensity
    let load := (s.rod.memberRecords.map fun r => r.mass * r.length).sum * 981 * (7850 - density) / 7850000000 +
      s.config.blockWeight
    let weighing : Bool := s.rod.members ≠ [] ∧ s.handler.carrier = some .elevator ∧ s.pins.slipsClosed = false ∧
      s.handler.blankingMs = none ∧ s.hub.hookLoad.invalid < 25
    let within : Bool := ((s.hub.hookLoad.value : Int) - (load : Nat)).natAbs ≤ s.config.weightMargin
    exec (.readString []) s = .next (s.setPort { s.port with engine := .idle, held := ⟨.done,
      be 1 s.rod.members.length ++ be 4 (s.rod.memberRecords.map (·.length)).sum ++ be 2 s.hub.stickUp.value ++
        be 1 (if s.hub.stickUp.invalid < 25 then 1 else 0) ++ be 4 s.rod.rawDepth ++ be 4 s.rod.repDepth ++
        be 4 s.steelNow ++ be 4 load ++ be 1 (if weighing = false then 0 else if within = true then 1 else 2) ++
        be 1 (s.rod.memberRecords.filter fun r => decide (r.wearLimit ≤ r.wearMilli / 1000)).length ++
        be 1 (s.rod.rods.filter fun r => decide (r.location = .uncertain)).length ++ opt 2 s.rod.lastWorn⟩ })) ∧
  (∀ (s : State) (slot v : Nat), 1 ≤ slot → slot ≤ 4 → v < 4294967296 →
    (∀ sel < 2, s.job.jobs.get slot = none → s.accepts (.lookUpInterval (be 1 slot ++ be 1 sel ++ be 4 v)) = true →
      (sel = 0 → v ≤ maxDepth) → Refused (.lookUpInterval (be 1 slot ++ be 1 sel ++ be 4 v)) s .notFound) ∧
    (∀ j, s.job.jobs.get slot = some j → j.mapOk →
      (v ≤ maxDepth → s.accepts (.lookUpInterval (be 1 slot ++ be 1 0 ++ be 4 v)) = true →
        ∃ n i, j.map[n]? = some i ∧ ((i.top ≤ v ∧ v < i.bottom) ∨ (j.holeDepth ≤ v ∧ n + 1 = j.map.length)) ∧
          exec (.lookUpInterval (be 1 slot ++ be 1 0 ++ be 4 v)) s = .next (s.setPort { s.port with
            engine := .idle, held := ⟨.done, intervalBody s slot (n + 1) i ++ opt 4 i.rate⟩ })) ∧
      (s.accepts (.lookUpInterval (be 1 slot ++ be 1 1 ++ be 4 v)) = true →
        (v = 0 ∨ j.map.length < v → Refused (.lookUpInterval (be 1 slot ++ be 1 1 ++ be 4 v)) s .notFound) ∧
        (∀ i, 1 ≤ v → j.map[v - 1]? = some i →
          exec (.lookUpInterval (be 1 slot ++ be 1 1 ++ be 4 v)) s = .next (s.setPort { s.port with
            engine := .idle, held := ⟨.done, intervalBody s slot v i ++ opt 4 (if i.drillSec = 0 then none
              else some (min ((i.bottom - i.top) * 3600 / i.drillSec) 4294967295))⟩ }))))) ∧
  (∀ s : State, s.accepts (.readBalance (be 1 0)) = true →
    let on (b : Bool) : List Byte := be 1 (if b then 1 else 0)
    let ref := s.circ.ref
    let measured := s.hub.pitLevel.value * s.config.pitArea * 10
    let expected : Int := (ref.pRef : Int) - s.addedNow + s.steelNow - ref.sRef
    let balance : Int := (measured : Int) - expected
    let ifValid (x : Int) : List Byte := optInt 4 (if ref.valid = true then some x else none)
    exec (.readBalance (be 1 0)) s = .next (s.setPort { s.port with engine := .idle, held := ⟨.done,
      be 2 s.hub.pitLevel.value ++ on (decide (s.hub.pitLevel.invalid < 25)) ++ be 2 s.config.pitArea ++ be 4 measured ++
        on ref.valid ++ be 4 ref.pRef ++ be 4 ref.hRef ++ be 4 ref.sRef ++ be 4 s.addedNow ++ be 4 s.steelNow ++
        ifValid expected ++ ifValid balance ++ ifValid (balance.tdiv 1000) ++
        on (decide (s.config.settleTime * 1000 ≤ s.circ.settleMs)) ++ be 4 (min (s.circ.settleMs / 1000) 4294967295) ++
        on s.circ.loss ++ on s.circ.gain ++ on s.circ.pitLow ++ on s.pumpPermit ++ on s.pumpPermit⟩ })) ∧
  (∀ s : State, s.pumpPermit = true ↔ s.running = true ∧ s.circ.pitLow = false ∧ s.pins.allstopN = true ∧
    s.handler.pastWaiting = false ∧ s.circ.pitTaken = true) ∧
  (∀ s : State, s.accepts (.readBalance (be 1 1)) = true →
    exec (.readBalance (be 1 1)) s = .next (s.setPort { s.port with engine := .idle, held := ⟨.done,
      match s.circ.lastBalance with
      | some r => [1] ++ be 1 r.cause.code ++ be 1 r.outcome.code ++ optInt 4 r.balance ++ opt 4 r.depth ++ be 1 r.slot ++
          opt 1 r.entry
      | none => List.replicate 16 0⟩ })) ∧
  (∀ s : State, s.accepts (.readSweep []) = true →
    let on (b : Bool) : List Byte := be 1 (if b then 1 else 0)
    let w := s.sweep
    exec (.readSweep []) s = .next (s.setPort { s.port with engine := .idle, held := ⟨.done,
      on w.owed ++ on w.overdue ++ be 4 w.counter ++ be 2 s.config.sweepSpacing ++
        be 4 (s.config.sweepSpacing - w.counter) ++
        (match w.current with
          | none => be 1 0 ++ opt 4 none ++ opt 6 none ++ opt 6 none ++ opt 4 none
          | some r => be 1 (if r.target = none then 1 else if r.holdMs = none then 2 else 3) ++ opt 4 r.target ++
              opt 6 (some r.progress) ++ opt 6 (some (r.progress / 100)) ++ opt 4 (r.holdMs.map (· / 1000))) ++
        be 2 s.config.sweepHold ++ be 2 s.config.sweepFactor ++
        (match s.activeJob with
          | some (n, j) => be 1 n ++ be 1 j.waived
          | none => be 1 0 ++ be 1 0) ++
        (match w.last with
          | some r => [1] ++ be 1 r.outcome.code ++ be 1 r.slot ++ opt 4 r.target ++ opt 6 r.progress ++ on r.overdue
          | none => List.replicate 16 0)⟩ }))

/-- SET CONFIG writes one item, brought within its range, with DONE_CLAMPED where it was outside; every other item
stands (R192). An item whose chapter gives a write no act of its own changes nothing else; a change of the pit area
makes the reference INVALID (R124); a write of the value held changes nothing; no mask changes what is pending. -/
def Obligations.ConfigItemIsWritten : Prop :=
  ∀ (s : State) (n v : Nat), n < 256 → v < 4294967296 → s.accepts (.setConfig (be 1 n ++ be 4 v)) = true →
    (s.config.item n = none → Refused (.setConfig (be 1 n ++ be 4 v)) s .notFound) ∧
    (∀ i, s.config.item n = some i →
      let w := if v < i.lo then i.lo else if i.hi < v then i.hi else v
      ∃ t, exec (.setConfig (be 1 n ++ be 4 v)) s = .next t ∧ t.config.item n = some { i with value := w } ∧
        (∀ m, m ≠ n → t.config.item m = s.config.item m) ∧
        Replied s t (if w = v then .done else .doneClamped)
          (be 1 n ++ be 4 w ++ be 4 i.lo ++ be 4 i.hi ++ be 4 i.default) ∧
        t.pins = s.pins ∧ t.power = s.power ∧ t.pricing = s.pricing ∧
        (w = i.value → OnlyPort s t) ∧
        (n ∉ [30, 31, 40, 41, 42, 43, 44, 60, 61, 65, 66, 70, 72, 80, 81, 82] → t = (s.setConfig t.config).setPort t.port) ∧
        (100 < n → ∀ c, t.isPending c = s.isPending c) ∧
        (n = 60 → w ≠ i.value → t.circ = { s.circ with ref := { s.circ.ref with valid := false } }))

/-- What a SET CONFIG that changes an item does at its event in the block that owns it. A running timer that stands at
or beyond its new limit expires as the command of its expiry says: a stage (R79, R86), blanking and the
determination (R86; for the latter the model's reading, log 11), the hold of a sweep (R134), the idle and standby
timers (R153); below it nothing but the item changes. A closed run that has reached a new transfer time acts as the
command of its reaching it says; where no transfer completes, the release permits alone are asserted or withdrawn by
R70 with the new time (R86). A new stroke timeout stops the pumps it finds beyond it (R56; that a stopped stroke
timer is held as 0 is MODEL'S CHOICE, log 8), a new rotation threshold is a change of the rotating state (R58), a
new settle time may settle the balance, and the WAITING conditions are evaluated (R111), a new low pit level or pit
hysteresis re-evaluates PIT_LOW while the pit level is fresh (R115), a new spacing counts the spacings crossed and
may start a sweep (R128, R130), and a new on-bottom tolerance re-derives the activity (R156). -/
def Obligations.ItemWritesAct : Prop :=
  ∀ (s : State) (n v : Nat) (i : Item), n < 256 → v < 4294967296 → s.config.item n = some i →
    s.accepts (.setConfig (be 1 n ++ be 4 v)) = true →
    let w := if v < i.lo then i.lo else if i.hi < v then i.hi else v
    w ≠ i.value →
    ∃ t, exec (.setConfig (be 1 n ++ be 4 v)) s = .next t ∧
      let u := s.setConfig t.config
      let alone := t = u.setPort t.port
      let actsAs (c : Instr) : Prop := exec c u = .next (t.setPort s.port)
      let pump (l : PumpLine) : PumpLine :=
        if l.state = .pumping ∧ w ≤ l.timerMs then { l with state := .stopped, timerMs := 0 } else l
      let k := s.sweep.counter / w
      let starts := s.anyPumping = true ∧ s.handler.pastWaiting = false ∧ s.job.activity ≠ .drilling ∧
        s.sweep.current = none
      (n = 30 → t.hub = { s.hub with pumpA := pump s.hub.pumpA, pumpB := pump s.hub.pumpB } ∧
        (t.hub = s.hub → alone) ∧ (t.hub ≠ s.hub → t.circ.settleMs = 0)) ∧
      (n = 31 → t.hub = s.hub ∧
        t.rotating = (if s.hub.rotary.invalid < 25 then (if w ≤ s.hub.rotary.value then .yes else .no) else .unknown) ∧
        (t.rotating = s.rotating → alone) ∧
        (t.rotating ≠ s.rotating → s.handler.queue = [] → t.rod = s.rod ∧ t.job.activity = u.derivedActivity)) ∧
      (n = 40 → ∀ x ms, s.handler.run x = some ms → w ≤ ms →
        (∀ r ∈ s.handler.transfer, r.target = x → ∀ m ∈ r.runMs, w ≤ m) →
        actsAs (.closedRunReachesTransferTime x)) ∧
      (n = 40 → (∀ r ∈ s.handler.transfer, ∀ m ∈ r.runMs, m < w) →
        let released (carrier : Holder) : Prop := s.pins.allstopN = true ∧ s.handler.holdFault = false ∧
          s.handler.determinationMs = none ∧ (s.rod.members = [] ∨
            (s.handler.transfer = none ∧ s.handler.carrier = some carrier ∧ ∃ m, s.handler.run carrier = some m ∧ w ≤ m))
        t = (u.setHandler t.handler).setPort t.port ∧ (t.handler.slipsRel = true ↔ released .elevator) ∧
          (t.handler.elevRel = true ↔ released .slips) ∧ t.handler.queue = s.handler.queue ∧
          t.handler.transfer = s.handler.transfer ∧ t.handler.carrier = s.handler.carrier ∧
          t.handler.holdFault = s.handler.holdFault ∧ (∀ x, t.handler.run x = s.handler.run x)) ∧
      (∀ e others, s.handler.queue = e :: others →
        n = 41 ∧ (e.stage = .setting ∨ e.stage = .lifting ∨ e.stage = .liftingOut) ∨
          n = 43 ∧ (e.stage = .joining ∨ e.stage = .unjoining) ∨ n = 44 ∧ (e.stage = .placing ∨ e.stage = .racking) →
        (w * 1000 ≤ s.handler.stageMs → actsAs .stageTimeout) ∧ (s.handler.stageMs < w * 1000 → alone)) ∧
      (n = 41 ∨ n = 43 ∨ n = 44 → s.handler.pastWaiting = false → alone) ∧
      (n = 42 → s.handler.determinationMs = none →
        (∀ ms ∈ s.handler.blankingMs, w ≤ ms → actsAs .blankingEnd) ∧
        ((∀ ms ∈ s.handler.blankingMs, ms < w) → alone)) ∧
      (n = 42 → s.handler.blankingMs = none →
        (∀ ms ∈ s.handler.determinationMs, w ≤ ms → actsAs .determinationEnd) ∧
        ((∀ ms ∈ s.handler.determinationMs, ms < w) → alone)) ∧
      (n = 61 →
        (s.config.settleTime * 1000 ≤ s.circ.settleMs ∨ s.circ.settleMs < w * 1000 → alone) ∧
        (s.circ.settleMs < s.config.settleTime * 1000 → w * 1000 ≤ s.circ.settleMs →
          u.settled = true ∧ t = (runQueue u).setPort t.port)) ∧
      (n = 65 ∨ n = 66 → t = (u.setCirc { s.circ with pitLow := t.circ.pitLow }).setPort t.port ∧
        t.circ.pitLow = (if 25 ≤ s.hub.pitLevel.invalid then s.circ.pitLow
          else if s.hub.pitLevel.value ≤ t.config.lowPit then true
          else if t.config.lowPit + t.config.pitHyst ≤ s.hub.pitLevel.value then false else s.circ.pitLow)) ∧
      (n = 70 →
        let crossed := s.sweep.current = none ∧ s.sweep.owed = false ∧ 1 ≤ k ∧ starts
        let counted : SweepUnit := { s.sweep with
          counter := s.sweep.counter - k * w, owed := s.sweep.owed || decide (1 ≤ k)
          overdue := s.sweep.overdue || decide ((if s.sweep.owed = true then 1 else 2) ≤ k) }
        (¬crossed → t = (u.setSweep counted).setPort t.port) ∧
        (crossed → t = ((u.setSweep { counted with current := some ⟨0, none, none⟩ }).setCirc { s.circ with
          survey := match s.circ.survey with
            | some x => some { x with sweepWaits := true }
            | none => some ⟨s.surveyInputs, false, true, 0, 0⟩ }).setPort t.port)) ∧
      (n = 72 → (∀ r m, s.sweep.current = some r → r.holdMs = some m → w * 1000 ≤ m → actsAs .sweepHoldExpiry) ∧
        ((∀ r m, s.sweep.current = some r → r.holdMs = some m → m < w * 1000) → alone)) ∧
      (n = 80 → t.job.activity = u.derivedActivity ∧ t.rod = s.rod ∧ t.handler = s.handler ∧
        (u.derivedActivity = s.job.activity → alone)) ∧
      (n = 81 → (s.job.activity = .idle → w * 60000 ≤ s.job.idleMs → actsAs .idleGraceExpiry) ∧
        (s.job.activity ≠ .idle ∨ s.job.idleMs < w * 60000 → alone)) ∧
      (n = 82 → (s.job.activity = .standby → w * 3600000 ≤ s.job.standbyMs → actsAs .standbyLimitExpiry) ∧
        (s.job.activity ≠ .standby ∨ s.job.standbyMs < w * 3600000 → alone))

/-! ## Rods -/

/-- ENTER ROD creates a record in a free, unreserved slot, with no reservation; a full table is refused with FULL, a
tag held or a slot occupied or reserved with IN_USE, in that order (R14). Its arguments decode by
`ArgumentsAreReadBack`. -/
def Obligations.EnterRodCreatesRecord : Prop :=
  ∀ (s : State) (args : List Byte) (r : RodRecord) (slot : Nat),
    s.accepts (.enterRod args) = true → decodeEnterRod args = some (r, slot) →
    r.location = .rack slot ∧ r.reservation = none ∧
    (200 ≤ s.rod.rods.length → Refused (.enterRod args) s .full) ∧
    (s.rod.rods.length < 200 → (s.rod.find r.tag).isSome = true → Refused (.enterRod args) s .inUse) ∧
    (s.rod.rods.length < 200 → s.rod.find r.tag = none →
      (s.rod.occupant slot).isSome = true ∨ (s.rod.slotReservation slot).isSome = true →
      Refused (.enterRod args) s .inUse) ∧
    (s.rod.rods.length < 200 → s.rod.find r.tag = none → s.rod.occupant slot = none →
      s.rod.slotReservation slot = none →
      ∃ t, exec (.enterRod args) s = .next t ∧ OnlyRods s t ∧ t.rod.rods.length = s.rod.rods.length + 1 ∧
        t.rod.find r.tag = some r ∧ t.rod.occupant slot = some r.tag ∧ OtherRods r.tag s t ∧
        Replied s t .done (rodBody r))

/-- AMEND ROD writes the present fields together: a reserved record is refused with IN_USE, a physical field outside
QUARANTINE with WRONG_STATE, an ID above the OD less 10 that would result with OUT_OF_RANGE, in that order; an amended
wear drops the fraction, location and reservation stand, and ROD_WORN and the last-worn tag are not touched (R16, R10).
-/
def Obligations.AmendRodWritesPresentFields : Prop :=
  ∀ (s : State) (args : List Byte) (x : RodAmendment),
    s.accepts (.amendRod args) = true → decodeAmendRod args = some x →
    (s.rod.find x.tag = none → Refused (.amendRod args) s .notFound) ∧
    (∀ r, s.rod.find x.tag = some r →
      let physical := x.length ≠ none ∨ x.od ≠ none ∨ x.id ≠ none ∨ x.mass ≠ none ∨ x.wear ≠ none
      let fits := x.id.getD r.id + 10 ≤ x.od.getD r.od
      (r.reservation ≠ none → Refused (.amendRod args) s .inUse) ∧
      (r.reservation = none → physical → r.location ≠ .quarantine → Refused (.amendRod args) s .wrongState) ∧
      (r.reservation = none → (physical → r.location = .quarantine) → ¬fits → Refused (.amendRod args) s .outOfRange) ∧
      (r.reservation = none → (physical → r.location = .quarantine) → fits →
        ∃ t, exec (.amendRod args) s = .next t ∧ OnlyRods s t ∧ OtherRods x.tag s t ∧
          t.rod.rods.length = s.rod.rods.length ∧
          t.rod.find x.tag = some
            { tag := r.tag, kind := r.kind, length := x.length.getD r.length, od := x.od.getD r.od,
              id := x.id.getD r.id, mass := x.mass.getD r.mass,
              wearMilli := (x.wear.map (· * 1000)).getD r.wearMilli, wearLimit := x.limit.getD r.wearLimit,
              location := r.location, reservation := none } ∧
          Replied s t .done (((t.rod.find x.tag).map rodBody).getD [])))

/-- QUARANTINE ROD takes an unreserved rod from its rack slot into quarantine and frees the slot (R17); RETURN ROD puts
a quarantined rod into a free, unreserved slot (R18); RETIRE ROD frees the record of an unreserved rod that is racked or
quarantined, the table then holding one record fewer (R19). The refusals come in the order of each rule. That no other
rod lies in the slot is the invariant `SteelStaysInOnePlace`. -/
def Obligations.RackRodsAreMoved : Prop :=
  (∀ (s : State) (tag : Nat), 1 ≤ tag → tag ≤ 65534 → LocationsOk s →
    (s.accepts (.quarantineRod (be 2 tag)) = true →
      (s.rod.find tag = none → Refused (.quarantineRod (be 2 tag)) s .notFound) ∧
      (∀ r, s.rod.find tag = some r → r.reservation ≠ none → Refused (.quarantineRod (be 2 tag)) s .inUse) ∧
      (∀ r, s.rod.find tag = some r → r.reservation = none → (∀ n, r.location ≠ .rack n) →
        Refused (.quarantineRod (be 2 tag)) s .wrongState) ∧
      (∀ r n, s.rod.find tag = some r → r.reservation = none → r.location = .rack n →
        ∃ t, exec (.quarantineRod (be 2 tag)) s = .next t ∧ OnlyRods s t ∧ OtherRods tag s t ∧
          t.rod.rods.length = s.rod.rods.length ∧ t.rod.find tag = some { r with location := .quarantine } ∧
          t.rod.occupant n = none ∧ Replied s t .done (rodBody { r with location := .quarantine }))) ∧
    (s.accepts (.retireRod (be 2 tag)) = true →
      (s.rod.find tag = none → Refused (.retireRod (be 2 tag)) s .notFound) ∧
      (∀ r, s.rod.find tag = some r → r.reservation ≠ none → Refused (.retireRod (be 2 tag)) s .inUse) ∧
      (∀ r, s.rod.find tag = some r → r.reservation = none → (∀ n, r.location ≠ .rack n) → r.location ≠ .quarantine →
        Refused (.retireRod (be 2 tag)) s .wrongState) ∧
      (∀ r, s.rod.find tag = some r → r.reservation = none → (∃ n, r.location = .rack n) ∨ r.location = .quarantine →
        ∃ t, exec (.retireRod (be 2 tag)) s = .next t ∧ OnlyRods s t ∧ OtherRods tag s t ∧
          t.rod.rods.length + 1 = s.rod.rods.length ∧ t.rod.find tag = none ∧
          (∀ n, r.location = .rack n → t.rod.occupant n = none) ∧ Replied s t .done (rodBody r)))) ∧
  (∀ (s : State) (tag slot : Nat), 1 ≤ tag → tag ≤ 65534 → 1 ≤ slot → slot ≤ 200 →
    s.accepts (.returnRod (be 2 tag ++ be 1 slot)) = true →
    (s.rod.find tag = none → Refused (.returnRod (be 2 tag ++ be 1 slot)) s .notFound) ∧
    (∀ r, s.rod.find tag = some r → r.location ≠ .quarantine →
      Refused (.returnRod (be 2 tag ++ be 1 slot)) s .wrongState) ∧
    (∀ r, s.rod.find tag = some r → r.location = .quarantine →
      (s.rod.occupant slot).isSome = true ∨ (s.rod.slotReservation slot).isSome = true →
      Refused (.returnRod (be 2 tag ++ be 1 slot)) s .inUse) ∧
    (∀ r, s.rod.find tag = some r → r.location = .quarantine → s.rod.occupant slot = none →
      s.rod.slotReservation slot = none →
      ∃ t, exec (.returnRod (be 2 tag ++ be 1 slot)) s = .next t ∧ OnlyRods s t ∧ OtherRods tag s t ∧
        t.rod.rods.length = s.rod.rods.length ∧ t.rod.find tag = some { r with location := .rack slot } ∧
        t.rod.occupant slot = some tag ∧ Replied s t .done (rodBody { r with location := .rack slot })))

/-- RESOLVE ROD gives an UNCERTAIN rod its place, and an unreserved racked rod the string top; every refusal of R20
comes in its order; a reserved rack rod to the rack or to quarantine is refused with WRONG_STATE (MODEL'S CHOICE, log
43). A rod placed at the top of the string is its last member, gains no place in the rack, and on an
empty string gives the handler its carrier: SLIPS with SLIPS_CLOSED high, else ELEVATOR with ELEV_CLOSED high, else
SLIPS (R20, R69). While the stick-up is stale the rod record changes in its location alone (R6). That its rack slot is
then free rests on the invariant `SteelStaysInOnePlace`. -/
def Obligations.ResolveRodPlacesRod : Prop :=
  ∀ (s : State) (tag slot : Nat), 1 ≤ tag → tag ≤ 65534 → 1 ≤ slot → slot ≤ 200 →
    let toRack := Instr.resolveRod (be 2 tag ++ be 1 0 ++ be 1 slot)
    let toTop := Instr.resolveRod (be 2 tag ++ be 1 1 ++ be 1 0)
    let toQuarantine := Instr.resolveRod (be 2 tag ++ be 1 2 ++ be 1 0)
    (∀ i, i = toRack ∨ i = toTop ∨ i = toQuarantine → s.accepts i = true →
      (s.rod.find tag = none → Refused i s .notFound) ∧
      (∀ r, s.rod.find tag = some r → s.handler.pastWaiting = true → Refused i s .wrongState) ∧
      (∀ r, s.rod.find tag = some r → s.handler.pastWaiting = false → r.location ≠ .uncertain →
        (∀ n, r.location ≠ .rack n) → Refused i s .wrongState) ∧
      (∀ r n, s.rod.find tag = some r → s.handler.pastWaiting = false → r.location = .rack n → i ≠ toTop →
        Refused i s .wrongState)) ∧
    (s.accepts toRack = true → ∀ r, s.rod.find tag = some r → s.handler.pastWaiting = false →
      r.location = .uncertain →
      ((s.rod.occupant slot).isSome = true ∨ (s.rod.slotReservation slot).isSome = true → Refused toRack s .inUse) ∧
      (s.rod.occupant slot = none → s.rod.slotReservation slot = none →
        ∃ t, exec toRack s = .next t ∧ OnlyRods s t ∧ OtherRods tag s t ∧
          t.rod.find tag = some { r with location := .rack slot } ∧ t.rod.occupant slot = some tag ∧
          Replied s t .done (rodBody { r with location := .rack slot }))) ∧
    (s.accepts toQuarantine = true → ∀ r, s.rod.find tag = some r → s.handler.pastWaiting = false →
      r.location = .uncertain →
      ∃ t, exec toQuarantine s = .next t ∧ OnlyRods s t ∧ OtherRods tag s t ∧
        t.rod.find tag = some { r with location := .quarantine } ∧
        Replied s t .done (rodBody { r with location := .quarantine })) ∧
    (s.accepts toTop = true → ∀ r, s.rod.find tag = some r → s.handler.pastWaiting = false →
      (∀ n, r.location = .rack n → r.reservation ≠ none → Refused toTop s .inUse) ∧
      (r.location = .uncertain ∨ ((∃ n, r.location = .rack n) ∧ r.reservation = none) →
        (r.status = .worn → Refused toTop s .wrongState) ∧
        (r.status = .inService → s.activeJob = none → Refused toTop s .noJob) ∧
        (r.status = .inService → s.activeJob ≠ none → 200 ≤ s.rod.members.length → Refused toTop s .full) ∧
        (r.status = .inService → s.activeJob ≠ none → s.rod.members.length < 200 →
          ∃ t r', exec toTop s = .next t ∧ t.rod.members = s.rod.members ++ [tag] ∧ t.rod.find tag = some r' ∧
            r'.location = .string (s.rod.members.length + 1) ∧ r'.reservation = r.reservation ∧
            (LocationsOk s → ∀ n, r.location = .rack n → t.rod.occupant n = none) ∧
            t.rod.slotRes = s.rod.slotRes ∧
            (s.hub.stickUp.stale = true → r' = { r with location := .string (s.rod.members.length + 1) } ∧
              OtherRods tag s t ∧ t.rod.rawDepth = s.rod.rawDepth ∧ t.rod.repDepth = s.rod.repDepth) ∧
            (s.rod.members ≠ [] → t.handler.carrier = s.handler.carrier) ∧
            (s.rod.members = [] → t.handler.carrier = some (if s.pins.slipsClosed = true then .slips
              else if s.pins.elevClosed = true then .elevator else .slips)) ∧
            t.handler.queue = s.handler.queue ∧ t.hub = s.hub ∧ t.pricing = s.pricing ∧ t.config = s.config ∧
            t.power = s.power ∧ t.pins = s.pins ∧ Replied s t .done (rodBody r'))))

/-! ## The bore map -/

/-- NEW FORMATION amends a zero-length deepest interval in place, or opens a zero-length interval at the hole depth with
the job's bit diameter and takes a pool record, refused with FULL where none is free (R38). CHANGE BIT sets the ACTIVE
job's bit diameter with the string empty and leaves the map as it is (R46). Both are refused with NO_JOB without an
ACTIVE job (R37). -/
def Obligations.NewFormationAndBit : Prop :=
  (∀ (s : State) (f h : Nat), f ≤ 11 → 1 ≤ h → h ≤ 8 → s.accepts (.newFormation (be 1 f ++ be 1 h)) = true →
    (s.activeJob = none → Refused (.newFormation (be 1 f ++ be 1 h)) s .noJob) ∧
    (∀ n j pre d, s.activeJob = some (n, j) → j.mapOk → j.map = pre ++ [d] → d.top = d.bottom →
      let d' := { d with formation := f, hardness := h, diameter := j.bit }
      EditsMap (.newFormation (be 1 f ++ be 1 h)) s n j (pre ++ [d']) fun t => intervalBody t n (pre.length + 1) d') ∧
    (∀ n j pre d, s.activeJob = some (n, j) → j.mapOk → j.map = pre ++ [d] → d.top < d.bottom →
      (s.poolFree = 0 → Refused (.newFormation (be 1 f ++ be 1 h)) s .full) ∧
      (0 < s.poolFree →
        let d' : Interval := ⟨j.holeDepth, j.holeDepth, f, h, j.bit, 0, 0, 0, false, none⟩
        EditsMap (.newFormation (be 1 f ++ be 1 h)) s n j (j.map ++ [d'])
          fun t => intervalBody t n (j.map.length + 1) d'))) ∧
  (∀ (s : State) (bit : Nat), 50 ≤ bit → bit ≤ 900 → s.accepts (.changeBit (be 2 bit)) = true →
    (s.activeJob = none → Refused (.changeBit (be 2 bit)) s .noJob) ∧
    (s.activeJob ≠ none → s.rod.members ≠ [] → Refused (.changeBit (be 2 bit)) s .wrongState) ∧
    (∀ n j, s.activeJob = some (n, j) → s.rod.members = [] →
      ∃ t, exec (.changeBit (be 2 bit)) s = .next t ∧ OnlyJobs s t ∧ OtherSlots n s t ∧
        t.job.jobs.get n = some { j with bit := bit } ∧ Replied s t .done (be 1 n ++ be 2 bit)))

/-- AMEND INTERVAL writes the present fields of the interval a depth names and nothing else of it (R40). RECORD STRIKE
gives the interval at the strike depth its strike, refused with WRONG_STATE at or beyond the hole depth or where one is
held (R44). CLEAR STRIKE makes it absent, refused with WRONG_STATE where none is held (R45). A job slot without a job
is refused with NOT_FOUND, a PRICED or SETTLED job with LOCKED (R37). -/
def Obligations.OneIntervalIsEdited : Prop :=
  ∀ (s : State) (args : List Byte),
    (∀ x, s.accepts (.amendInterval args) = true → decodeAmendInterval args = some x →
      EditChecks (.amendInterval args) s x.slot ∧
      (∀ j k i, s.job.jobs.get x.slot = some j → j.state = .active ∨ j.state = .complete → j.mapOk →
        intervalAt x.depth j.map = some (k, i) →
        let i' := { i with formation := x.formation.getD i.formation, hardness := x.hardness.getD i.hardness,
                           diameter := x.diameter.getD i.diameter }
        EditsMap (.amendInterval args) s x.slot j (j.map.set (k - 1) i') fun t => intervalBody t x.slot k i')) ∧
    (∀ slot x, s.accepts (.recordStrike args) = true → decodeRecordStrike args = some (slot, x) →
      EditChecks (.recordStrike args) s slot ∧
      (∀ j k i, s.job.jobs.get slot = some j → j.state = .active ∨ j.state = .complete → j.mapOk →
        intervalAt x.depth j.map = some (k, i) →
        (j.holeDepth ≤ x.depth → Refused (.recordStrike args) s .wrongState) ∧
        (x.depth < j.holeDepth → i.strike ≠ none → Refused (.recordStrike args) s .wrongState) ∧
        (x.depth < j.holeDepth → i.strike = none →
          EditsMap (.recordStrike args) s slot j (j.map.set (k - 1) { i with strike := some x })
            fun t => intervalBody t slot k { i with strike := some x }))) ∧
    (∀ slot d, s.accepts (.clearStrike args) = true → decodeSlotDepth args = some (slot, d) →
      EditChecks (.clearStrike args) s slot ∧
      (∀ j k i, s.job.jobs.get slot = some j → j.state = .active ∨ j.state = .complete → j.mapOk →
        intervalAt d j.map = some (k, i) →
        (i.strike = none → Refused (.clearStrike args) s .wrongState) ∧
        (i.strike ≠ none →
          EditsMap (.clearStrike args) s slot j (j.map.set (k - 1) { i with strike := none })
            fun t => intervalBody t slot k { i with strike := none })))

/-- SPLIT INTERVAL divides the interval that holds the depth strictly inside: both parts keep its classification and
mark, the upper part receives floor(total × U ÷ L) of each total and the lower part the remainder, a strike goes to the
part that holds its depth, and the ordinals below rise by one; a depth not strictly inside is refused with WRONG_STATE,
an empty pool with FULL (R41). -/
def Obligations.SplitIntervalApportions : Prop :=
  ∀ (s : State) (slot d : Nat), 1 ≤ slot → slot ≤ 4 → d ≤ maxDepth →
    s.accepts (.splitInterval (be 1 slot ++ be 4 d)) = true →
    EditChecks (.splitInterval (be 1 slot ++ be 4 d)) s slot ∧
    (∀ j, s.job.jobs.get slot = some j → j.state = .active ∨ j.state = .complete → j.mapOk →
      ((∀ i ∈ j.map, ¬(i.top < d ∧ d < i.bottom)) → Refused (.splitInterval (be 1 slot ++ be 4 d)) s .wrongState) ∧
      (∀ pre i post, j.map = pre ++ i :: post → i.top < d → d < i.bottom →
        (s.poolFree = 0 → Refused (.splitInterval (be 1 slot ++ be 4 d)) s .full) ∧
        (0 < s.poolFree →
          let part (v : Nat) : Nat := v * (d - i.top) / (i.bottom - i.top)
          let up := { i with bottom := d, drillSec := part i.drillSec, lostMud := part i.lostMud,
                             inflow := part i.inflow, strike := i.strike.filter fun k => k.depth < d }
          let low := { i with top := d, drillSec := i.drillSec - part i.drillSec,
                              lostMud := i.lostMud - part i.lostMud, inflow := i.inflow - part i.inflow,
                              strike := i.strike.filter fun k => d ≤ k.depth }
          EditsMap (.splitInterval (be 1 slot ++ be 4 d)) s slot j (pre ++ up :: low :: post)
              (fun t => intervalBody t slot (pre.length + 2) low) ∧
            up.drillSec + low.drillSec = i.drillSec ∧ up.lostMud + low.lostMud = i.lostMud ∧
            up.inflow + low.inflow = i.inflow ∧ (i.strike.isSome = true → up.strike.isSome ≠ low.strike.isSome))))

/-- MERGE INTERVALS joins the two intervals that meet at a boundary: the upper one's top and classification, the sums of
the totals up to 4,294,967,295, whichever strike was held, the mark set if either was, and one pool record freed. A
depth that is no lower interval's top, different diameters, and two strikes are refused with WRONG_STATE (R42). -/
def Obligations.MergeIntervalsJoins : Prop :=
  ∀ (s : State) (slot d : Nat), 1 ≤ slot → slot ≤ 4 → d ≤ maxDepth →
    s.accepts (.mergeIntervals (be 1 slot ++ be 4 d)) = true →
    EditChecks (.mergeIntervals (be 1 slot ++ be 4 d)) s slot ∧
    (∀ j, s.job.jobs.get slot = some j → j.state = .active ∨ j.state = .complete → j.mapOk →
      ((∀ i ∈ j.map.drop 1, i.top ≠ d) → Refused (.mergeIntervals (be 1 slot ++ be 4 d)) s .wrongState) ∧
      (∀ pre u l post, j.map = pre ++ u :: l :: post → l.top = d →
        (u.diameter ≠ l.diameter → Refused (.mergeIntervals (be 1 slot ++ be 4 d)) s .wrongState) ∧
        (u.diameter = l.diameter → u.strike ≠ none → l.strike ≠ none →
          Refused (.mergeIntervals (be 1 slot ++ be 4 d)) s .wrongState) ∧
        (u.diameter = l.diameter → u.strike = none ∨ l.strike = none →
          let m := { u with bottom := l.bottom, drillSec := min (u.drillSec + l.drillSec) 4294967295,
                            lostMud := min (u.lostMud + l.lostMud) 4294967295,
                            inflow := min (u.inflow + l.inflow) 4294967295, mismatch := u.mismatch || l.mismatch,
                            strike := u.strike.or l.strike }
          EditsMap (.mergeIntervals (be 1 slot ++ be 4 d)) s slot j (pre ++ m :: post)
            fun t => intervalBody t slot (pre.length + 1) m)))

/-- SET DIAMETER RANGE gives every depth of the range the diameter and a clear mismatch mark and leaves the diameter of
every other depth of the hole, in a map that covers the same hole, keeps every total and every strike, and takes one
pool record for each end strictly inside an interval; a range beyond the hole is refused with WRONG_STATE, a pool
without the records with FULL (R43). -/
def Obligations.DiameterRangeIsRecorded : Prop :=
  ∀ (s : State) (args : List Byte) (x : DiameterRange),
    s.accepts (.setDiameterRange args) = true → decodeSetDiameterRange args = some x →
    EditChecks (.setDiameterRange args) s x.slot ∧
    (∀ j, s.job.jobs.get x.slot = some j → j.state = .active ∨ j.state = .complete → j.mapOk →
      let inside (d : Nat) : Nat := if ∃ i ∈ j.map, i.top < d ∧ d < i.bottom then 1 else 0
      let needs := inside x.lo + inside x.hi
      (j.holeDepth < x.hi → Refused (.setDiameterRange args) s .wrongState) ∧
      (x.hi ≤ j.holeDepth → s.poolFree < needs → Refused (.setDiameterRange args) s .full) ∧
      (x.hi ≤ j.holeDepth → needs ≤ s.poolFree →
        ∃ m, EditsMap (.setDiameterRange args) s x.slot j m (fun t =>
            ((intervalAt x.lo m).map fun p => intervalBody t x.slot p.1 p.2).getD []) ∧
          covers 0 j.holeDepth m = true ∧ m.length = j.map.length + needs ∧
          (∀ d k i, intervalAt d m = some (k, i) → x.lo ≤ d → d < x.hi → i.diameter = x.diameter ∧ i.mismatch = false) ∧
          (∀ d k i k' i', intervalAt d m = some (k, i) → intervalAt d j.map = some (k', i') → d < j.holeDepth →
            (i.formation = i'.formation ∧ i.hardness = i'.hardness) ∧
            (d < x.lo ∨ x.hi ≤ d → i.diameter = i'.diameter ∧ i.mismatch = i'.mismatch)) ∧
          (m.map (·.drillSec)).sum = (j.map.map (·.drillSec)).sum ∧
          (m.map (·.lostMud)).sum = (j.map.map (·.lostMud)).sum ∧
          (m.map (·.inflow)).sum = (j.map.map (·.inflow)).sum ∧
          m.filterMap (·.strike) = j.map.filterMap (·.strike) ∧
          (∀ i, j.map.getLast? = some i → i.top = i.bottom → m.getLast? = some i)))

/-! ## The hub line -/

/-- The frame's layout: eight header bits, the first frame-good and the next seven the slot-valid flags in slot order,
then seven values of 16 bits (R203). A slot brings its value only in a good frame with its flag set (R50).
FRAME_ARRIVAL makes the whole frame's changes to the table: a valid slot's value is taken within its range and its
invalid count becomes 0, an invalid slot's quantity keeps its value and its count rises, stopping at 25 (R50, R51, R53);
the link comes UP; the frame counts advance (R49, R52); a stale stroke slot leaves no reference and the pump UNKNOWN
(R54, R56; that its stopped stroke timer is held as 0 is MODEL'S CHOICE, log 8); the strokes counted reach the pump's
count, which wraps, and its accumulator, d × displacement × efficiency centi-mL up to 281,474,976,710,655 (R57, R96,
R98). In a frame without a stick-up value the strokes counted reach a sweep that awaits its target and end its hold
(R132, R134), or start an owed sweep with their volume as its progress (R99, R130), and without strokes a change of a
pumping state acts as `SweepFollowsPumps` says. With no frame in progress nothing happens. -/
def Obligations.FrameArrivalFillsTable : Prop :=
  (∀ (header : BitVec 8) (v : Fin 7 → BitVec 16),
    let f : BitVec 120 := header ++ v 0 ++ v 1 ++ v 2 ++ v 3 ++ v 4 ++ v 5 ++ v 6
    frameBit f 0 = header.getMsbD 0 ∧
      ∀ k : Fin 7, slotOf f (k.val + 1) =
        if header.getMsbD 0 = true ∧ header.getMsbD (k.val + 1) = true then some (v k).toNat else none) ∧
  (∀ (s : State) (f : BitVec 120), s.running = true → s.circ.pumpA.strokes < 4294967296 →
    s.circ.pumpB.strokes < 4294967296 → s.circ.pumpA.volume ≤ 281474976710655 →
    s.circ.pumpB.volume ≤ 281474976710655 →
    (s.hub.frameOpen = false → exec (.frameArrival f) s = .next s) ∧
    (s.hub.frameOpen = true →
      let taken (lo hi k : Nat) (q : Quantity) : Quantity :=
        match slotOf f k with
        | some v => ⟨if v < lo then lo else if hi < v then hi else v, 0⟩
        | none => ⟨q.value, min (q.invalid + 1) 25⟩
      let pump (k : Nat) (q : Quantity) (l : PumpLine) : PumpLine :=
        if (slotOf f k).isNone = true ∧ 24 ≤ q.invalid then ⟨none, .unknown, 0, l.resyncs⟩
        else (l.take (slotOf f k) false).1
      ∃ t, exec (.frameArrival f) s = .next t ∧
        t.hub = { s.hub with
          strokesA := taken 0 65535 1 s.hub.strokesA, strokesB := taken 0 65535 2 s.hub.strokesB,
          pitLevel := taken 0 4000 3 s.hub.pitLevel, hookLoad := taken 0 60000 4 s.hub.hookLoad,
          stickUp := taken 0 20000 5 s.hub.stickUp, rotary := taken 0 1000 6 s.hub.rotary,
          density := taken 1000 2400 7 s.hub.density,
          pumpA := pump 1 s.hub.strokesA s.hub.pumpA, pumpB := pump 2 s.hub.strokesB s.hub.pumpB,
          linkUp := true, linkMs := if s.hub.linkUp = true then s.hub.linkMs else 0, frameOpen := false,
          frames := (s.hub.frames + 1) % 65536,
          notGood := if frameBit f 0 = true then s.hub.notGood else (s.hub.notGood + 1) % 65536 } ∧
        t.circ.pumpA.strokes = (s.circ.pumpA.strokes + (s.hub.pumpA.take (slotOf f 1) false).2) % 4294967296 ∧
        t.circ.pumpB.strokes = (s.circ.pumpB.strokes + (s.hub.pumpB.take (slotOf f 2) false).2) % 4294967296 ∧
        t.circ.pumpA.volume = min (s.circ.pumpA.volume +
          (s.hub.pumpA.take (slotOf f 1) false).2 * (s.config.dispA * s.config.effA)) 281474976710655 ∧
        t.circ.pumpB.volume = min (s.circ.pumpB.volume +
          (s.hub.pumpB.take (slotOf f 2) false).2 * (s.config.dispB * s.config.effB)) 281474976710655 ∧
        (slotOf f 5 = none →
          let a := (s.hub.pumpA.take (slotOf f 1) false).2
          let b := (s.hub.pumpB.take (slotOf f 2) false).2
          let pumped := a * (s.config.dispA * s.config.effA) + b * (s.config.dispB * s.config.effB)
          (a = 0 → b = 0 → t.hub.pumpA.state ≠ s.hub.pumpA.state ∨ t.hub.pumpB.state ≠ s.hub.pumpB.state →
            SweepFollowsPumps s t) ∧
          (∀ r, a ≠ 0 ∨ b ≠ 0 → s.sweep.current = some r → r.target = none → t.sweep = { s.sweep with
            current := some ⟨min (r.progress + pumped) 281474976710655, none, none⟩ }) ∧
          (a ≠ 0 ∨ b ≠ 0 → s.sweep.current = none → s.sweep.owed = true → s.handler.pastWaiting = false →
            s.job.activity ≠ .drilling → t.job.activity ≠ .drilling →
            t.sweep = { s.sweep with current := some ⟨min pumped 281474976710655, none, none⟩ } ∧
            t.circ.survey = some (match s.circ.survey with
              | some v => { v with sweepWaits := true }
              | none => ⟨s.surveyInputs, false, true, 0, 0⟩))) ∧
        t.pricing = s.pricing ∧ t.config = s.config ∧ t.power = s.power ∧ t.pins = s.pins ∧ t.port = s.port))

/-- The table of R54 and R56 for one valid stroke value: with no reference it only sets one; a difference of 0 counts
nothing and stops a pump that was UNKNOWN; 1 to 50 are counted and the pump is PUMPING with its timer restarted; above
50 is a resync. An invalid slot that is not stale changes nothing. A group of strokes counted adds to the pump's wrapping
count and its saturating accumulator, d × displacement × efficiency centi-mL, and the same volume to the progress of a
sweep in progress, whose hold it ends and which it may complete (R96, R98, R132, R133, R134). With none in progress it is
an evaluation event: an owed sweep starts with the group's volume as its progress where a pump is PUMPING, no operation
is past WAITING and the activity is not DRILLING (R130). -/
def Obligations.StrokesAreCounted : Prop :=
  (∀ (l : PumpLine) (v r : Nat), v < 65536 → r < 65536 →
    l.take none false = (l, 0) ∧
    (l.ref = none → l.take (some v) false = ({ l with ref := some v }, 0)) ∧
    (l.ref = some r → v = r →
      l.take (some v) false = ({ l with ref := some v, state := if l.state = .unknown then .stopped else l.state }, 0)) ∧
    (∀ d, l.ref = some r → 1 ≤ d → d ≤ 50 → v = (r + d) % 65536 →
      l.take (some v) false = ({ l with ref := some v, state := .pumping, timerMs := 0 }, d)) ∧
    (∀ d, l.ref = some r → 50 < d → d < 65536 → v = (r + d) % 65536 →
      l.take (some v) false = ({ l with ref := some v, resyncs := (l.resyncs + 1) % 65536 }, 0))) ∧
  (∀ (s : State) (p : Pump) (d : Nat), 1 ≤ d → d ≤ 50 →
    let each := match p with
      | .a => s.config.dispA * s.config.effA
      | .b => s.config.dispB * s.config.effB
    ((strokesCounted p d s).circ.pump p).strokes = ((s.circ.pump p).strokes + d) % 4294967296 ∧
    ((strokesCounted p d s).circ.pump p).volume = min ((s.circ.pump p).volume + d * each) 281474976710655 ∧
    (∀ q, q ≠ p → (strokesCounted p d s).circ.pump q = s.circ.pump q) ∧
    (s.sweep.current = none →
      let starts := s.sweep.owed = true ∧ s.anyPumping = true ∧ s.handler.pastWaiting = false ∧
        s.job.activity ≠ .drilling
      (starts → (strokesCounted p d s).sweep =
        { s.sweep with current := some ⟨min (d * each) 281474976710655, none, none⟩ }) ∧
      (¬starts → (strokesCounted p d s).sweep = s.sweep)) ∧
    (∀ r, s.sweep.current = some r → r.target = none → (strokesCounted p d s).sweep =
      { s.sweep with current := some ⟨min (r.progress + d * each) 281474976710655, none, none⟩ }) ∧
    (∀ r g, s.sweep.current = some r → r.target = some g →
      (min (r.progress + d * each) 281474976710655 < 100 * g → (strokesCounted p d s).sweep =
        { s.sweep with current := some ⟨min (r.progress + d * each) 281474976710655, some g, none⟩ }) ∧
      (100 * g ≤ min (r.progress + d * each) 281474976710655 → (strokesCounted p d s).sweep =
        ⟨s.sweep.counter, false, false, none, some ⟨.completed, s.activeSlot, some g,
          some (min (r.progress + d * each) 281474976710655 / 100), s.sweep.overdue⟩⟩)))

/-- A frame start begins a frame and restarts the link-lost timer (R48, R52). One that comes during an incomplete frame
cuts it short: all seven slots count as invalid and the short-frame count advances, and the complete-frame count does
not (R49); that the not-good count does not advance either is MODEL'S CHOICE (log 49). A stroke slot that goes stale leaves no reference and the pump UNKNOWN (R54, R56; that its stopped stroke timer is held
as 0 is MODEL'S CHOICE, log 8), and the change of the pumping state acts on the sweep (R130, R134). FRAME_START and
FRAME_CUT_SHORT act alike (log 22). -/
def Obligations.FrameStartsAndCutsShort : Prop :=
  ∀ (s : State) (i : Instr), s.running = true → i = .frameStart ∨ i = .frameCutShort →
    (s.hub.frameOpen = false →
      exec i s = .next (s.setHub { s.hub with frameOpen := true, linkMs := 0, sinceStartMs := some 0 })) ∧
    (s.hub.frameOpen = true →
      let missed (q : Quantity) : Quantity := ⟨q.value, min (q.invalid + 1) 25⟩
      let pump (q : Quantity) (l : PumpLine) : PumpLine := if 24 ≤ q.invalid then ⟨none, .unknown, 0, l.resyncs⟩ else l
      ∃ t, exec i s = .next t ∧
        t.hub = { s.hub with
          strokesA := missed s.hub.strokesA, strokesB := missed s.hub.strokesB, pitLevel := missed s.hub.pitLevel,
          hookLoad := missed s.hub.hookLoad, stickUp := missed s.hub.stickUp, rotary := missed s.hub.rotary,
          density := missed s.hub.density, pumpA := pump s.hub.strokesA s.hub.pumpA,
          pumpB := pump s.hub.strokesB s.hub.pumpB, frameOpen := true, linkMs := 0, sinceStartMs := some 0,
          shortFrames := (s.hub.shortFrames + 1) % 65536 } ∧
        (t.hub.pumpA.state ≠ s.hub.pumpA.state ∨ t.hub.pumpB.state ≠ s.hub.pumpB.state → SweepFollowsPumps s t) ∧
        (t.hub.pumpA.state = s.hub.pumpA.state → t.hub.pumpB.state = s.hub.pumpB.state →
          t.circ.settleMs = s.circ.settleMs) ∧
        t.rod.members = s.rod.members ∧ t.rod.rawDepth = s.rod.rawDepth ∧ t.rod.repDepth = s.rod.repDepth ∧
        (s.handler.queue = [] → t.rod = s.rod) ∧ t.bore = s.bore ∧ t.circ.pumpA = s.circ.pumpA ∧ t.circ.pumpB = s.circ.pumpB ∧
        t.pricing = s.pricing ∧ t.config = s.config ∧ t.power = s.power ∧ t.pins = s.pins ∧ t.port = s.port)

/-- LINK_LOSS: while the link is UP every quantity goes stale with its value held, both stroke references become absent,
the pumping and rotating states UNKNOWN, the link DOWN and a frame in progress is dropped uncounted; SENSOR is
pending (R55, R59). While it is DOWN nothing happens (R52). STROKE_TIMEOUT makes a PUMPING pump STOPPED with its
timer stopped, and the settle timer restarts (R56, R111). A change of a pump's pumping state acts on the sweep: the
hold timer of a sweep in progress starts at the event at which no pump remains PUMPING, and an owed sweep may start
(R130, R134). MODEL'S CHOICE: the timers that a command says have expired stand at their limits (log 2), and a
stopped stroke timer is held as 0 (log 8). -/
def Obligations.LinkLossAndStrokeTimeout : Prop :=
  (∀ s : State, s.running = true →
    (s.hub.linkUp = false → exec .linkLoss s = .next s) ∧
    (s.hub.linkUp = true →
      let lost (q : Quantity) : Quantity := ⟨q.value, 25⟩
      ∃ t, exec .linkLoss s = .next t ∧
        t.hub = { s.hub with
          strokesA := lost s.hub.strokesA, strokesB := lost s.hub.strokesB, pitLevel := lost s.hub.pitLevel,
          hookLoad := lost s.hub.hookLoad, stickUp := lost s.hub.stickUp, rotary := lost s.hub.rotary,
          density := lost s.hub.density, pumpA := ⟨none, .unknown, 0, s.hub.pumpA.resyncs⟩,
          pumpB := ⟨none, .unknown, 0, s.hub.pumpB.resyncs⟩, linkUp := false, linkMs := 100, frameOpen := false } ∧
        t.rotating = .unknown ∧ t.isPending .sensor = true ∧ t.rod.members = s.rod.members ∧
        (s.hub.pumpA.state ≠ .unknown ∨ s.hub.pumpB.state ≠ .unknown → SweepFollowsPumps s t ∧ t.circ.settleMs = 0) ∧
        t.rod.rawDepth = s.rod.rawDepth ∧ t.rod.repDepth = s.rod.repDepth ∧ (s.handler.queue = [] → t.rod = s.rod) ∧
        t.bore = s.bore ∧
        t.handler.holdFault = s.handler.holdFault ∧ t.pricing = s.pricing ∧ t.config = s.config ∧ t.power = s.power ∧
        t.pins = s.pins ∧ t.port = s.port)) ∧
  (∀ (s : State) (p : Pump), s.running = true →
    ((s.hub.pump p).state ≠ .pumping → exec (.strokeTimeout p) s = .next s) ∧
    ((s.hub.pump p).state = .pumping →
      ∃ t, exec (.strokeTimeout p) s = .next t ∧
        t.hub = s.hub.setPump p { s.hub.pump p with state := .stopped, timerMs := 0 } ∧ t.circ.settleMs = 0 ∧
        SweepFollowsPumps s t ∧
        t.circ.pumpA = s.circ.pumpA ∧ t.circ.pumpB = s.circ.pumpB ∧ t.rod.members = s.rod.members ∧
        t.bore.depthDisagree = s.bore.depthDisagree ∧ t.pricing = s.pricing ∧ t.config = s.config ∧
        t.power = s.power ∧ t.pins = s.pins ∧ t.port = s.port))

/-- A stick-up value taken sets the raw bit depth, the string length less the stick-up (R5), and hands it to the bore
map (R31). With no ACTIVE job both end at a reported depth of 0; a raw depth within the hole clears DEPTH_DISAGREE;
beyond it, without rotation YES and a pump PUMPING, or at a hole of 1,500,000, it is pending and the reported depth is
the hole's (R34). With both, the hole is extended to the raw depth, at most 1,500,000 (R32): a bit of another diameter
opens an interval, with no free record the deepest one takes the mismatch mark and POOL its exhaustion mark (R33), and
a zero-length deepest interval takes the bit's diameter. Every member gains Δ × hardness of wear, and a record worn out
raises ROD_WORN with the lowest such tag as the last-worn one (R9, R10). No sweep is in progress after it (R130, R135).
Where the frame counts no strokes the counter, the owed flag and the overdue mark follow R128, a sweep in progress ends
with ENDED_DRILLING and its SWEEP waiter is withdrawn (R103, R135, R136). MODEL'S CHOICE: that the extension is no
evaluation event though it sets the owed flag (log 37), and that it comes after the other events of the frame at the
sweep state (log 20). -/
def Obligations.StickUpDrivesTheHole : Prop :=
  ∀ (s : State) (f : BitVec 120) (v : Nat), s.running = true → s.hub.frameOpen = true → slotOf f 5 = some v →
    (∀ e ∈ s.handler.queue.head?, e.stage ≠ .queued) →
    let table := s.setHub (s.hub.takeSlots (slotOf f))
    let drills := table.rotating = .yes ∧ table.anyPumping = true
    let raw := s.rod.stringLength - min v 20000
    ∃ t, exec (.frameArrival f) s = .next t ∧ t.rod.rawDepth = raw ∧ t.rod.members = s.rod.members ∧
      t.config = s.config ∧ t.pins = s.pins ∧ t.power = s.power ∧ t.pricing = s.pricing ∧ t.port = s.port ∧
      (s.activeJob = none → t.rod.repDepth = 0 ∧ t.bore = { s.bore with depthDisagree := false } ∧
        (s.handler.queue = [] → t.rod = { s.rod with rawDepth := raw, repDepth := 0 } ∧ t.job.jobs = s.job.jobs)) ∧
      (∀ n j, s.activeJob = some (n, j) → raw ≤ j.holeDepth ∨ ¬drills ∨ maxDepth ≤ j.holeDepth →
        t.rod.repDepth = min raw j.holeDepth ∧
        t.bore = { s.bore with depthDisagree := decide (j.holeDepth < raw) } ∧
        (s.handler.queue = [] →
          t.rod = { s.rod with rawDepth := raw, repDepth := min raw j.holeDepth } ∧ t.job.jobs = s.job.jobs)) ∧
      (∀ n j pre d, s.activeJob = some (n, j) → j.mapOk → j.map = pre ++ [d] → drills → j.holeDepth < raw →
        j.holeDepth < maxDepth →
        let hole := min raw maxDepth
        let drilled := hole - j.holeDepth
        let opens := j.bit ≠ d.diameter ∧ d.top < d.bottom
        let deepest : Interval :=
          if d.top = d.bottom then { d with diameter := j.bit, bottom := hole }
          else if opens ∧ 0 < s.poolFree then ⟨j.holeDepth, hole, d.formation, d.hardness, j.bit, 0, 0, 0, false, none⟩
          else { d with bottom := hole, mismatch := d.mismatch || decide opens }
        let gained (w : Nat) : Nat := min (w + drilled * deepest.hardness) 65535999
        let wearsOut (tag : Nat) : Prop := ∃ r, s.rod.find tag = some r ∧ r.wearMilli / 1000 < r.wearLimit ∧
          r.wearLimit ≤ gained r.wearMilli / 1000
        let k := (s.sweep.counter + drilled) / s.config.sweepSpacing
        t.job.jobs.get n = some { j with
          holeDepth := hole, map := (if opens ∧ 0 < s.poolFree then j.map else pre) ++ [deepest] } ∧
        OtherSlots n s t ∧
        t.bore = ⟨s.bore.poolExhausted || decide (opens ∧ s.poolFree = 0), decide (maxDepth < raw)⟩ ∧
        t.rod.repDepth = hole ∧ t.rod.slotRes = s.rod.slotRes ∧ t.rod.rods.length = s.rod.rods.length ∧
        (∀ tag, t.rod.find tag = (s.rod.find tag).map fun r =>
          if tag ∈ s.rod.members then { r with wearMilli := gained r.wearMilli } else r) ∧
        ((∀ tag ∈ s.rod.members, ¬wearsOut tag) →
          t.rod.rodWorn = s.rod.rodWorn ∧ t.rod.lastWorn = s.rod.lastWorn) ∧
        (∀ below tag above, s.rod.members = below ++ tag :: above → (∀ x ∈ below, ¬wearsOut x) → wearsOut tag →
          t.rod.rodWorn = true ∧ t.rod.lastWorn = some tag) ∧
        t.handler = s.handler ∧ t.sweep.current = none ∧
        ((s.hub.pumpA.take (slotOf f 1) false).2 = 0 → (s.hub.pumpB.take (slotOf f 2) false).2 = 0 →
          t.sweep.counter = s.sweep.counter + drilled - k * s.config.sweepSpacing ∧
          t.sweep.owed = (s.sweep.owed || decide (1 ≤ k)) ∧
          t.sweep.overdue = (s.sweep.overdue || decide ((if s.sweep.owed = true then 1 else 2) ≤ k)) ∧
          (s.sweep.current = none → s.sweep.owed = false → t.sweep.last = s.sweep.last) ∧
          (∀ r, s.sweep.current = some r →
            (∃ o, (o = s.sweep.overdue ∨ o = t.sweep.overdue) ∧
              t.sweep.last = some ⟨.endedDrilling, n, r.target, some (r.progress / 100), o⟩) ∧
            t.circ.survey = s.circ.survey.bind fun x => if x.readWaits = true then some { x with
              sweepWaits := false, snapshot := t.surveyInputs
              restarts := if x.snapshot = t.surveyInputs then x.restarts else min (x.restarts + 1) 65535
              elapsedMs := if x.snapshot = t.surveyInputs then x.elapsedMs else 0 } else none)))

/-! ## The handler -/

/-- ADD ROD, PULL ROD and TRANSFER HOLD are checked in the order of R64, R65 and R66, and an accepted one joins the tail
with the next number, reserves its rod or slot (R7) and is answered with its number and position (R62). Behind other
entries it stays QUEUED and nothing else changes. Into an empty queue it becomes head at once: it waits while the
WAITING conditions, which `HeadLeavesWaiting` spells out, do not hold, and leaves WAITING at once where they do
(R63, R74); an operation that ends there does so because its target is already the carrier (R71, R78). -/
def Obligations.HandlerRequestsJoinQueue : Prop :=
  ∀ (s : State),
    let accepted (i : Instr) (op : Operation) (u : RodUnit) : Prop :=
      (s.handler.queue ≠ [] →
        exec i s = .next (((s.setRod u).setHandler { s.handler with
          queue := s.handler.queue ++ [⟨s.handler.nextNum, op, .queued, []⟩],
          nextNum := if s.handler.nextNum = 255 then 1 else s.handler.nextNum + 1 }).setPort { s.port with
          held := ⟨.done, be 1 s.handler.nextNum ++ be 1 (s.handler.queue.length + 1)⟩, engine := .idle })) ∧
      (s.handler.queue = [] →
        ∃ t, exec i s = .next t ∧ Replied s t .done (be 1 s.handler.nextNum ++ be 1 1) ∧
          t.handler.nextNum = (if s.handler.nextNum = 255 then 1 else s.handler.nextNum + 1) ∧
          t.rod.members = s.rod.members ∧ t.handler.carrier = s.handler.carrier ∧ t.hub = s.hub ∧
          t.pricing = s.pricing ∧ t.config = s.config ∧ t.power = s.power ∧ t.pins = s.pins ∧
          (s.mayLeaveWaiting = false → t.rod = u ∧ t.handler = { s.handler with
            queue := [⟨s.handler.nextNum, op, .waiting, []⟩], stageMs := 0,
            nextNum := if s.handler.nextNum = 255 then 1 else s.handler.nextNum + 1 }) ∧
          (s.mayLeaveWaiting = true →
            (t.handler.pastWaiting = true ∧ t.handler.queue.map (fun e => (e.num, e.op)) = [(s.handler.nextNum, op)]) ∨
            (op = .transferHold .slips ∧ s.handler.carrier = some .slips ∨
              op = .transferHold .elevator ∧ s.handler.carrier = some .elevator) ∧ t.handler.queue = [] ∧
              t.handler.lastOutcome = some ⟨s.handler.nextNum, .transferHold, none, none⟩))
    (∀ tag, 1 ≤ tag → tag ≤ 65534 → s.accepts (.addRod (be 2 tag)) = true →
      (4 ≤ s.handler.queue.length → Refused (.addRod (be 2 tag)) s .full) ∧
      (s.handler.queue.length < 4 → s.activeJob = none → Refused (.addRod (be 2 tag)) s .noJob) ∧
      (s.handler.queue.length < 4 → s.activeJob ≠ none → s.rod.find tag = none →
        Refused (.addRod (be 2 tag)) s .notFound) ∧
      (∀ r, s.handler.queue.length < 4 → s.activeJob ≠ none → s.rod.find tag = some r →
        (r.reservation ≠ none → Refused (.addRod (be 2 tag)) s .inUse) ∧
        (r.reservation = none → (∀ n, r.location ≠ .rack n) ∨ r.status = .worn →
          Refused (.addRod (be 2 tag)) s .wrongState) ∧
        (r.reservation = none → (∃ n, r.location = .rack n) → r.status = .inService →
          (200 ≤ s.rod.members.length + (s.handler.queue.filter fun e => e.op.kind == .addRod).length →
            Refused (.addRod (be 2 tag)) s .full) ∧
          (s.rod.members.length + (s.handler.queue.filter fun e => e.op.kind == .addRod).length < 200 →
            (s.rod.reserveRod tag s.handler.nextNum).find tag = some { r with reservation := some s.handler.nextNum } ∧
            accepted (.addRod (be 2 tag)) (.addRod tag) (s.rod.reserveRod tag s.handler.nextNum))))) ∧
    (∀ slot, 1 ≤ slot → slot ≤ 200 → s.accepts (.pullRod (be 1 slot)) = true →
      (4 ≤ s.handler.queue.length → Refused (.pullRod (be 1 slot)) s .full) ∧
      (s.handler.queue.length < 4 → s.rod.members = [] → Refused (.pullRod (be 1 slot)) s .wrongState) ∧
      (s.handler.queue.length < 4 → s.rod.members ≠ [] →
        (s.handler.queue.filter fun e => e.op.kind == .pullRod).length = s.rod.members.length →
        Refused (.pullRod (be 1 slot)) s .wrongState) ∧
      (s.handler.queue.length < 4 → s.rod.members ≠ [] →
        (s.handler.queue.filter fun e => e.op.kind == .pullRod).length ≠ s.rod.members.length →
        ((s.rod.occupant slot).isSome = true ∨ (s.rod.slotReservation slot).isSome = true →
          Refused (.pullRod (be 1 slot)) s .inUse) ∧
        (s.rod.occupant slot = none → s.rod.slotReservation slot = none →
          (s.rod.reserveSlot slot s.handler.nextNum).slotReservation slot = some s.handler.nextNum ∧
          accepted (.pullRod (be 1 slot)) (.pullRod slot) (s.rod.reserveSlot slot s.handler.nextNum)))) ∧
    (∀ h, s.accepts (.transferHold (be 1 (holderCode h))) = true →
      (4 ≤ s.handler.queue.length → Refused (.transferHold (be 1 (holderCode h))) s .full) ∧
      (s.handler.queue.length < 4 → s.rod.members = [] → Refused (.transferHold (be 1 (holderCode h))) s .wrongState) ∧
      (s.handler.queue.length < 4 → s.rod.members ≠ [] →
        accepted (.transferHold (be 1 (holderCode h))) (.transferHold h) s.rod))

/-- A head may leave WAITING while no sweep is owed, both pumps are STOPPED, the balance is settled, the rotating state
is NO (R58), neither latch is set and ALLSTOP_N is high; it waits on until all of these hold (R74, R111). A head
that may leave WAITING does so: the head test is made again and a failure ends it ABORTED with INVALID; else the
path follows the string as it stands, the head note is written, the balance is booked with cause OPERATION and the
first working stage that does not end at once begins, with its transfer, its wrench permit and its rod IN_TRANSFER
(R63, R69, R71, R74 to R78, R119). -/
def Obligations.HeadLeavesWaiting : Prop :=
  (∀ s : State, s.mayLeaveWaiting = true ↔
    s.sweep.owed = false ∧ s.hub.pumpA.state = .stopped ∧ s.hub.pumpB.state = .stopped ∧
    s.config.settleTime * 1000 ≤ s.circ.settleMs ∧
    (s.hub.rotary.invalid < 25 ∧ s.hub.rotary.value < s.config.rotThreshold) ∧
    s.handler.holdFault = false ∧ s.handler.handlerFault = false ∧ s.pins.allstopN = true) ∧
  (∀ (s : State) (e : Entry) (others : List Entry), s.handler.queue = e :: others → e.stage = .waiting →
    s.mayLeaveWaiting = false → runQueue s = s) ∧
  ∀ (s : State) (e : Entry), s.handler.queue = [e] → e.stage = .waiting → s.mayLeaveWaiting = true →
    let t := runQueue s
    (s.headTest e.op = false → t.handler.queue = [] ∧ t.handler.handlerDone = true ∧ t.rod.members = s.rod.members ∧
      ∃ tag, t.handler.lastOutcome = some ⟨e.num, e.op.kind, some .invalid, tag⟩) ∧
    (s.headTest e.op = true →
      (∃ b, t.circ.lastBalance = some b ∧ b.cause = .operation ∧ b.entry = some e.num) ∧
      (t.handler.pastWaiting = true → t.handler.rotPermit = false) ∧ t.rod.members = s.rod.members ∧ Elsewhere s t ∧
      (∀ tag, e.op = .addRod tag → s.rod.members = [] →
        t.handler.queue = [⟨e.num, e.op, .placing, [.lifting]⟩] ∧ t.handler.transfer = s.handler.transfer ∧
        t.handler.headNote = some ⟨e.num, .addRod, some tag⟩ ∧ t.pumpPermit = false ∧
        (t.rod.find tag).map (·.location) = some .inTransfer) ∧
      (∀ tag, e.op = .addRod tag → s.rod.members ≠ [] → s.handler.carrier = some .slips →
        t.handler.queue = [⟨e.num, e.op, .joining, [.lifting]⟩] ∧
        t.handler.headNote = some ⟨e.num, .addRod, some tag⟩ ∧ t.pumpPermit = false ∧
        (s.handler.determinationMs = none → t.handler.wrenchPermit = true) ∧
        (t.rod.find tag).map (·.location) = some .inTransfer) ∧
      (∀ tag, e.op = .addRod tag → s.rod.members ≠ [] → s.handler.carrier = some .elevator →
        t.handler.queue = [⟨e.num, e.op, .setting, [.joining, .lifting]⟩] ∧
        t.handler.transfer = some ⟨.slips, if s.pins.slipsClosed = true then some 0 else none⟩ ∧
        t.handler.slipsRel = false ∧ t.handler.elevRel = false ∧ t.pumpPermit = false ∧ t.rod = s.rod) ∧
      (∀ slot, e.op = .pullRod slot → 2 ≤ s.rod.members.length → s.handler.carrier = some .slips →
        t.handler.queue = [⟨e.num, e.op, .unjoining, [.racking]⟩] ∧
        t.handler.headNote = some ⟨e.num, .pullRod, none⟩ ∧ t.pumpPermit = false ∧
        (s.handler.determinationMs = none → t.handler.wrenchPermit = true)) ∧
      (∀ slot, e.op = .pullRod slot → 2 ≤ s.rod.members.length → s.handler.carrier = some .elevator →
        t.handler.queue = [⟨e.num, e.op, .setting, [.unjoining, .racking]⟩] ∧
        t.handler.headNote = some ⟨e.num, .pullRod, none⟩ ∧
        t.handler.transfer = some ⟨.slips, if s.pins.slipsClosed = true then some 0 else none⟩ ∧
        t.handler.slipsRel = false ∧ t.handler.elevRel = false ∧ t.handler.wrenchPermit = false ∧ t.pumpPermit = false) ∧
      (∀ slot, e.op = .pullRod slot → s.rod.members.length = 1 → s.handler.carrier = some .slips →
        t.handler.queue = [⟨e.num, e.op, .setting, [.liftingOut, .racking]⟩] ∧
        t.handler.transfer = some ⟨.elevator, if s.pins.elevClosed = true then some 0 else none⟩ ∧
        t.handler.slipsRel = false ∧ t.handler.elevRel = false) ∧
      (∀ slot, e.op = .pullRod slot → s.rod.members.length = 1 → s.handler.carrier = some .elevator →
        t.handler.queue = [⟨e.num, e.op, .liftingOut, [.racking]⟩]) ∧
      (∀ h, e.op = .transferHold h → s.handler.carrier = some h →
        t.handler.queue = [] ∧ t.handler.lastOutcome = some ⟨e.num, .transferHold, none, none⟩ ∧
        t.handler.carrier = some h) ∧
      (∀ h, e.op = .transferHold h → s.handler.carrier ≠ some h →
        t.handler.queue = [⟨e.num, e.op, .setting, []⟩] ∧
        t.handler.transfer = some ⟨h, if s.pins.closed h = true then some 0 else none⟩))

/-- CANCEL HANDLER ends the head ABORTED with CANCELLED, a rod in the handler's hands becoming UNCERTAIN, removes every
entry with its reservation, leaves latches, carrier and string as they are, and answers the number removed; with an
empty queue it changes nothing (R82, R84). -/
def Obligations.CancelEmptiesQueue : Prop :=
  (∀ s : State, s.accepts (.cancelHandler []) = true → s.handler.queue = [] →
    ∃ t, exec (.cancelHandler []) s = .next t ∧ OnlyPort s t ∧ Replied s t .done (be 1 0)) ∧
  (∀ (s : State) (e : Entry) (others : List Entry), s.accepts (.cancelHandler []) = true →
    s.handler.queue = e :: others → (∀ x ∈ others, x.stage = .queued) →
    ∃ t, exec (.cancelHandler []) s = .next t ∧ Replied s t .done (be 1 (others.length + 1)) ∧
      t.handler.queue = [] ∧ t.handler.transfer = none ∧ t.handler.headNote = none ∧ t.handler.handlerDone = true ∧
      (∃ tag, t.handler.lastOutcome = some ⟨e.num, e.op.kind, some .cancelled, tag⟩) ∧
      t.handler.wrenchPermit = false ∧ t.handler.carrier = s.handler.carrier ∧
      t.handler.holdFault = s.handler.holdFault ∧ t.handler.handlerFault = s.handler.handlerFault ∧
      t.handler.nextNum = s.handler.nextNum ∧ t.rod.members = s.rod.members ∧
      (LocationsOk s → (∀ tag, (t.rod.find tag).map (·.location) = ((s.rod.find tag).map (·.location)).map fun l =>
          if l = .inTransfer then .uncertain else l) ∧
        (∀ x ∈ s.handler.queue, t.rod.reserves x = false ∨ x.op.kind = .transferHold)) ∧
      t.hub = s.hub ∧ t.pricing = s.pricing ∧ t.config = s.config ∧ t.power = s.power ∧ t.pins = s.pins)

/-- HOLDER_INPUT_CHANGE: a level the input already has is no change. A rise begins the holder's closed run, a fall ends
it, and either acts on the run of a transfer toward it, which begins at 0 or becomes absent (R68, R71). A fall of the
carrier's input while no blanking and no determination is running latches HOLD_FAULT over a string, withdraws every
permit and aborts the head if it is past WAITING (R80), a rod IN_TRANSFER becoming UNCERTAIN (R82), and the entry behind
it becomes head (R63, R67). The rise of
SLIPS_CLOSED that ends PLACING makes the rod the first member, with SLIPS the carrier, both releases withdrawn and
LIFTING begun (R76). The slips' fall outside blanking ends LIFTING OUT: the last member is removed, the carrier is NONE
and RACKING begins (R78). -/
def Obligations.HolderInputsAct : Prop :=
  ∀ (s : State) (x : Holder), s.running = true →
    (∀ b, s.pins.closed x = b → exec (.holderInputChange x b) s = .next s) ∧
    (∀ b, s.pins.closed x = !b → ∃ t, exec (.holderInputChange x b) s = .next t ∧
      t.pins = (match x with
        | .slips => { s.pins with slipsClosed := b }
        | .elevator => { s.pins with elevClosed := b }) ∧
      t.handler.run x = (if b then some 0 else none) ∧ (∀ y, y ≠ x → t.handler.run y = s.handler.run y) ∧
      t.hub = s.hub ∧ t.pricing = s.pricing ∧ t.config = s.config ∧ t.power = s.power ∧ t.port = s.port ∧
      ((b = true → s.handler.headStage ≠ some .placing) →
        (b = false → s.handler.blankingMs ≠ none ∨
          (s.handler.carrier ≠ some x ∧ s.handler.headStage ≠ some .liftingOut)) →
        t.handler.transfer = s.handler.transfer.map fun r =>
          if r.target = x then { r with runMs := if b then some 0 else none } else r) ∧
      (s.handler.queue = [] → s.handler.blankingMs ≠ none → t.rod = s.rod ∧ t.handler.holdFault = s.handler.holdFault)) ∧
    (s.pins.closed x = true → s.handler.blankingMs = none → s.handler.determinationMs = none →
      s.handler.holdFault = false → s.handler.carrier = some x → s.rod.members ≠ [] →
      (∀ e ∈ s.handler.queue.tail, e.stage = .queued) →
      ∃ t, exec (.holderInputChange x false) s = .next t ∧ t.handler.holdFault = true ∧ t.handler.noPermit ∧
        t.rod.members = s.rod.members ∧ t.handler.carrier = some x ∧
        (s.handler.queue = [] → t.handler.queue = [] ∧ t.handler.lastOutcome = s.handler.lastOutcome) ∧
        (∀ e, s.handler.queue = [e] → e.stage = .waiting → t.handler.queue = [e]) ∧
        (∀ e, s.handler.queue = [e] → e.stage.working = true → t.handler.queue = [] ∧ t.handler.transfer = none ∧
          (∀ tag, (t.rod.find tag).map (·.location) = ((s.rod.find tag).map (·.location)).map fun l =>
            if l = .inTransfer then .uncertain else l) ∧
          ∃ tag, t.handler.lastOutcome = some ⟨e.num, e.op.kind, some .holdFault, tag⟩) ∧
        NextBecomesHead s t .holdFault) ∧
    (∀ num tag r, s.pins.slipsClosed = false → s.rod.members = [] → s.rod.find tag = some r →
      s.handler.queue = [⟨num, .addRod tag, .placing, [.lifting]⟩] →
      ∃ t, exec (.holderInputChange .slips true) s = .next t ∧ t.rod.members = [tag] ∧
        (t.rod.find tag).map (·.location) = some (.string 1) ∧ t.handler.carrier = some .slips ∧
        t.handler.queue = [⟨num, .addRod tag, .lifting, []⟩] ∧ t.handler.slipsRel = false ∧ t.handler.elevRel = false ∧
        t.handler.transfer = some ⟨.elevator, if s.pins.elevClosed = true then some 0 else none⟩ ∧
        t.handler.lastOutcome = s.handler.lastOutcome) ∧
    (∀ num slot tag r, s.pins.slipsClosed = true → s.handler.blankingMs = none → s.handler.carrier = some .elevator →
      s.rod.members = [tag] → s.rod.find tag = some r →
      s.handler.queue = [⟨num, .pullRod slot, .liftingOut, [.racking]⟩] →
      ∃ t, exec (.holderInputChange .slips false) s = .next t ∧ t.rod.members = [] ∧
        (t.rod.find tag).map (·.location) = some .inTransfer ∧ t.handler.carrier = none ∧
        t.handler.queue = [⟨num, .pullRod slot, .racking, []⟩] ∧ t.rod.rawDepth = 0 ∧ t.rod.repDepth = 0 ∧
        t.handler.headNote = s.handler.headNote.map (fun n => { n with tag := some tag }) ∧
        (s.pins.allstopN = true → s.handler.holdFault = false → s.handler.determinationMs = none →
          t.handler.slipsRel = true ∧ t.handler.elevRel = true))

/-- WRENCH_DONE_RISE ends JOINING: the rod is appended at the top, it and the member below gain the make-up wear, the
wrench permit is withdrawn and LIFTING begins (R8, R9, R75); it ends UNJOINING: the top member is removed, IN_TRANSFER,
and RACKING begins (R77). RACKED_RISE ends RACKING: the rod lies in the target slot, the reservations are released and
the operation ends DONE with the removed rod's tag (R8, R67, R77). At any other moment either rise changes its input's
level alone (R68). The wear clause is stated with the stick-up stale, so that no drilling wear comes with it (R6). -/
def Obligations.JointsAndRackingComplete : Prop :=
  (∀ s : State, s.running = true → s.handler.headStage ≠ some .joining → s.handler.headStage ≠ some .unjoining →
    exec .wrenchDoneRise s = .next (s.setPins { s.pins with wrenchDone := true })) ∧
  (∀ s : State, s.running = true → s.handler.headStage ≠ some .racking →
    exec .rackedRise s = .next (s.setPins { s.pins with racked := true })) ∧
  (∀ (s : State) (num tag below : Nat) (ms : List Nat) (r b : RodRecord) (others : List Entry), s.running = true →
    s.handler.queue = ⟨num, .addRod tag, .joining, [.lifting]⟩ :: others → s.handler.carrier = some .slips →
    s.rod.members = ms ++ [below] → tag ≠ below → s.rod.find tag = some r → s.rod.find below = some b →
    ∃ t, exec .wrenchDoneRise s = .next t ∧ t.rod.members = ms ++ [below, tag] ∧
      t.handler.queue = ⟨num, .addRod tag, .lifting, []⟩ :: others ∧ t.handler.wrenchPermit = false ∧
      t.handler.transfer = some ⟨.elevator, if s.pins.elevClosed = true then some 0 else none⟩ ∧
      t.handler.carrier = some .slips ∧ t.handler.lastOutcome = s.handler.lastOutcome ∧
      (s.hub.stickUp.stale = true →
        t.rod.find tag = some { r with
          location := .string (ms.length + 2), wearMilli := min (r.wearMilli + s.config.makeUpWear * 1000) 65535999 } ∧
        t.rod.find below = some { b with wearMilli := min (b.wearMilli + s.config.makeUpWear * 1000) 65535999 } ∧
        (∀ y, y ≠ tag → y ≠ below → t.rod.find y = s.rod.find y) ∧ t.rod.rawDepth = s.rod.rawDepth ∧
        t.rod.repDepth = s.rod.repDepth) ∧
      t.hub = s.hub ∧ t.pricing = s.pricing ∧ t.config = s.config ∧ t.power = s.power ∧ t.port = s.port ∧
      t.pins = { s.pins with wrenchDone := true }) ∧
  (∀ (s : State) (num slot tag : Nat) (ms : List Nat) (r : RodRecord) (others : List Entry), s.running = true →
    s.handler.queue = ⟨num, .pullRod slot, .unjoining, [.racking]⟩ :: others → ms ≠ [] →
    s.rod.members = ms ++ [tag] → s.rod.find tag = some r →
    ∃ t, exec .wrenchDoneRise s = .next t ∧ t.rod.members = ms ∧
      (t.rod.find tag).map (·.location) = some .inTransfer ∧
      t.handler.queue = ⟨num, .pullRod slot, .racking, []⟩ :: others ∧ t.handler.wrenchPermit = false ∧
      t.handler.headNote = s.handler.headNote.map (fun n => { n with tag := some tag }) ∧
      t.handler.carrier = s.handler.carrier ∧ t.rod.slotRes = s.rod.slotRes ∧
      (s.hub.stickUp.stale = true → t.rod.find tag = some { r with location := .inTransfer } ∧ OtherRods tag s t) ∧
      t.hub = s.hub ∧ t.pricing = s.pricing ∧ t.config = s.config ∧ t.power = s.power ∧ t.port = s.port ∧
      t.pins = { s.pins with wrenchDone := true }) ∧
  (∀ (s : State) (num slot tag : Nat) (n : HeadNote) (r : RodRecord), s.running = true →
    s.handler.queue = [⟨num, .pullRod slot, .racking, []⟩] → s.handler.headNote = some n → n.tag = some tag →
    s.rod.find tag = some r →
    ∃ t, exec .rackedRise s = .next t ∧
      t.rod.find tag = some { r with
        location := .rack slot, reservation := if r.reservation = some num then none else r.reservation } ∧
      t.rod.slotRes = s.rod.slotRes.filter (fun p => p.2 != num) ∧ t.rod.members = s.rod.members ∧
      t.handler.queue = [] ∧ t.handler.headNote = none ∧ t.handler.handlerDone = true ∧
      t.handler.lastOutcome = some ⟨num, .pullRod, none, some tag⟩ ∧ t.handler.carrier = s.handler.carrier ∧
      t.hub = s.hub ∧ t.pricing = s.pricing ∧ t.config = s.config ∧ t.power = s.power ∧ t.port = s.port ∧
      t.pins = { s.pins with racked := true })

/-- BLANKING_END: with no blanking running nothing happens. Else a carrier whose input is low is lost (R80); the slips
low end LIFTING OUT (R78); and ROT_PERMIT is asserted where all of its conditions hold (R72), which starts blanking
anew (R68). CLOSED_RUN_REACHES_TRANSFER_TIME: with no closed run nothing happens. A transfer toward the holder
completes, the holder becoming the carrier: a TRANSFER HOLD ends DONE (R71, R78), LIFTING ends ADD ROD DONE with
SLIPS_REL asserted (R75, R76), and SETTING gives way to JOINING, with the rod IN_TRANSFER and the wrench permit,
UNJOINING or LIFTING OUT, whose SLIPS_REL starts blanking (R73, R75, R77, R78); with none, the run of the carrier
asserts the other holder's release permit over a string (R70). At an abort a rod IN_TRANSFER becomes UNCERTAIN and
the entry behind becomes head (R63, R67, R82). A command that says a closed run has reached the transfer time brings
it there (MODEL'S CHOICE, log 2). -/
def Obligations.BlankingAndClosedRuns : Prop :=
  (∀ s : State, s.running = true → s.handler.blankingMs = none → exec .blankingEnd s = .next s) ∧
  (∀ (s : State) (h : Holder), s.running = true → s.handler.blankingMs ≠ none → s.rod.members ≠ [] →
    s.handler.determinationMs = none → s.handler.holdFault = false → s.handler.carrier = some h →
    s.pins.closed h = false → s.handler.headStage ≠ some .liftingOut →
    (∀ e ∈ s.handler.queue.tail, e.stage = .queued) →
    ∃ t, exec .blankingEnd s = .next t ∧ t.handler.holdFault = true ∧ t.handler.noPermit ∧
      t.rod.members = s.rod.members ∧ t.handler.carrier = some h ∧
      (∀ e, s.handler.queue = [e] → e.stage.working = true → t.handler.queue = [] ∧
        (∀ tag, (t.rod.find tag).map (·.location) = ((s.rod.find tag).map (·.location)).map fun l =>
          if l = .inTransfer then .uncertain else l) ∧
        ∃ tag, t.handler.lastOutcome = some ⟨e.num, e.op.kind, some .holdFault, tag⟩) ∧
      NextBecomesHead s t .holdFault) ∧
  (∀ (s : State) (num slot tag : Nat) (r : RodRecord), s.running = true → s.handler.blankingMs ≠ none →
    s.pins.slipsClosed = false → s.pins.elevClosed = true → s.handler.carrier = some .elevator →
    s.rod.members = [tag] → s.rod.find tag = some r →
    s.handler.queue = [⟨num, .pullRod slot, .liftingOut, [.racking]⟩] →
    ∃ t, exec .blankingEnd s = .next t ∧ t.rod.members = [] ∧ t.handler.carrier = none ∧
      (t.rod.find tag).map (·.location) = some .inTransfer ∧
      t.handler.queue = [⟨num, .pullRod slot, .racking, []⟩]) ∧
  (∀ s : State, s.running = true → s.handler.blankingMs ≠ none → s.handler.headStage ≠ some .liftingOut →
    s.rod.members = [] ∨ (∃ h, s.handler.carrier = some h ∧ s.pins.closed h = true) → s.handler.rotPermit = false →
    s.handler.slipsRel = s.slipsRelDue → s.handler.elevRel = s.elevRelDue → s.handler.wrenchPermit = s.wrenchDue →
    let rot := !s.permitsBarred && !s.handler.handlerFault && !s.handler.pastWaiting && !s.pins.slipsClosed &&
      (s.handler.carrier == some .elevator || s.rod.members.isEmpty)
    exec .blankingEnd s = .next (s.setHandler { s.handler with
      rotPermit := rot, blankingMs := if rot then some 0 else none })) ∧
  (∀ (s : State) (x : Holder), s.running = true →
    (s.handler.run x = none → exec (.closedRunReachesTransferTime x) s = .next s) ∧
    (∀ ms num run, s.handler.run x = some ms → s.handler.transfer = some ⟨x, some run⟩ →
      s.handler.queue = [⟨num, .transferHold x, .setting, []⟩] →
      ∃ t, exec (.closedRunReachesTransferTime x) s = .next t ∧ t.handler.carrier = some x ∧
        t.handler.transfer = none ∧ t.handler.queue = [] ∧ t.handler.handlerDone = true ∧
        t.handler.lastOutcome = some ⟨num, .transferHold, none, none⟩ ∧ t.rod.members = s.rod.members ∧
        t.hub = s.hub ∧ t.pricing = s.pricing ∧ t.config = s.config ∧ t.pins = s.pins ∧ t.port = s.port) ∧
    (∀ ms num tag run, s.handler.run x = some ms → s.handler.transfer = some ⟨x, some run⟩ →
      s.handler.queue = [⟨num, .addRod tag, .lifting, []⟩] →
      ∃ t, exec (.closedRunReachesTransferTime x) s = .next t ∧ t.handler.carrier = some x ∧
        t.handler.transfer = none ∧ t.handler.queue = [] ∧ t.handler.headNote = none ∧ t.handler.handlerDone = true ∧
        t.handler.lastOutcome = some ⟨num, .addRod, none, some tag⟩ ∧ t.rod.members = s.rod.members ∧
        (∀ y, (t.rod.find y).map (·.location) = (s.rod.find y).map (·.location)) ∧
        (x = .elevator → s.rod.members ≠ [] → s.permitsBarred = false →
          t.handler.slipsRel = true ∧ t.handler.elevRel = false) ∧ Elsewhere s t ∧ t.pins = s.pins) ∧
    (∀ ms num op run rest others, s.handler.run x = some ms → s.handler.transfer = some ⟨x, some run⟩ →
      s.handler.queue = ⟨num, op, .setting, rest⟩ :: others →
      (∀ tag, op = .addRod tag → rest = [.joining, .lifting] →
        ∃ t, exec (.closedRunReachesTransferTime x) s = .next t ∧ t.handler.carrier = some x ∧
          t.handler.transfer = none ∧ t.handler.queue = ⟨num, op, .joining, [.lifting]⟩ :: others ∧
          t.handler.stageMs = 0 ∧ t.rod.members = s.rod.members ∧
          ((s.rod.find tag).isSome = true → (t.rod.find tag).map (·.location) = some .inTransfer) ∧
          (x = .slips → s.permitsBarred = false → t.handler.wrenchPermit = true) ∧ Elsewhere s t ∧ t.pins = s.pins) ∧
      (∀ slot, op = .pullRod slot → rest = [.unjoining, .racking] →
        ∃ t, exec (.closedRunReachesTransferTime x) s = .next t ∧ t.handler.carrier = some x ∧
          t.handler.transfer = none ∧ t.handler.queue = ⟨num, op, .unjoining, [.racking]⟩ :: others ∧
          t.handler.stageMs = 0 ∧ t.rod = s.rod ∧ (x = .slips → s.permitsBarred = false → t.handler.wrenchPermit = true) ∧
          Elsewhere s t ∧ t.pins = s.pins) ∧
      (∀ slot, op = .pullRod slot → rest = [.liftingOut, .racking] →
        ∃ t, exec (.closedRunReachesTransferTime x) s = .next t ∧ t.handler.carrier = some x ∧
          t.handler.transfer = none ∧ t.handler.queue = ⟨num, op, .liftingOut, [.racking]⟩ :: others ∧
          t.handler.stageMs = 0 ∧ t.rod = s.rod ∧ t.handler.wrenchPermit = false ∧
          (x = .elevator → s.rod.members ≠ [] → s.permitsBarred = false → t.handler.slipsRel = true ∧
            (s.handler.slipsRel = false → t.handler.blankingMs = some 0)) ∧ Elsewhere s t ∧ t.pins = s.pins)) ∧
    (∀ ms, s.handler.run x = some ms → s.handler.transfer = none → s.rod.members ≠ [] →
      s.handler.carrier = some x → s.pins.allstopN = true → s.handler.holdFault = false →
      s.handler.determinationMs = none →
      ∃ t, exec (.closedRunReachesTransferTime x) s = .next t ∧
        (x = .slips → t.handler.elevRel = true ∧ t.handler.slipsRel = false) ∧
        (x = .elevator → t.handler.slipsRel = true ∧ t.handler.elevRel = false) ∧
        t.handler.run x = some (max s.config.transferTime ms) ∧ t.handler.queue = s.handler.queue ∧ t.rod = s.rod ∧
        t.handler.carrier = some x ∧ Elsewhere s t ∧ t.pins = s.pins))

/-- STAGE_TIMEOUT aborts a head past WAITING: with HANDLER_STRICT on HANDLER_FAULT latches and is the reason, with it off
the reason is TIMEOUT (R79, R81). ALLSTOP_FALL withdraws every permit, makes ALL_STOP pending, the activity DOWN, and
aborts a head past WAITING with ALL_STOP, while a waiting head stays; ALLSTOP_RISE clears ALL_STOP and returns the
releases of an empty string (R83, R116, R158). A rod IN_TRANSFER becomes UNCERTAIN at an abort and other rods stay where
they are (R82). With others behind it the next entry becomes head: its head test is made, and it waits, ends INVALID, or
after a TIMEOUT leaves WAITING at once where its conditions hold (R63, R67, R79). The chain sets and clears no latch. -/
def Obligations.AbortsAndAllStop : Prop :=
  (∀ s : State, s.running = true → s.handler.pastWaiting = false → exec .stageTimeout s = .next s) ∧
  (∀ (s : State) (e : Entry), s.running = true → s.handler.queue = [e] → e.stage.working = true →
    ∃ t, exec .stageTimeout s = .next t ∧ t.handler.queue = [] ∧ t.handler.transfer = none ∧
      t.handler.wrenchPermit = false ∧ t.rod.members = s.rod.members ∧ t.handler.carrier = s.handler.carrier ∧
      (∀ tag, (t.rod.find tag).map (·.location) = ((s.rod.find tag).map (·.location)).map fun l =>
        if l = .inTransfer then .uncertain else l) ∧
      (s.config.strict = 0 → t.handler.handlerFault = s.handler.handlerFault ∧
        ∃ tag, t.handler.lastOutcome = some ⟨e.num, e.op.kind, some .timeout, tag⟩) ∧
      (s.config.strict ≠ 0 → t.handler.handlerFault = true ∧
        ∃ tag, t.handler.lastOutcome = some ⟨e.num, e.op.kind, some .handlerFault, tag⟩) ∧
      t.handler.holdFault = s.handler.holdFault ∧ Elsewhere s t ∧ t.pins = s.pins) ∧
  (∀ s : State, s.running = true → s.handler.pastWaiting = true → s.config.strict ≠ 0 ∨ s.mayLeaveWaiting = false →
    ∃ t, exec .stageTimeout s = .next t ∧ t.handler.handlerFault = (s.handler.handlerFault || decide (s.config.strict ≠ 0)) ∧
      t.rod.members = s.rod.members ∧ t.handler.carrier = s.handler.carrier ∧ Elsewhere s t ∧ t.pins = s.pins ∧
      NextBecomesHead s t (if s.config.strict = 0 then .timeout else .handlerFault)) ∧
  (∀ (s : State) (e next : Entry), s.running = true → s.handler.queue = [e, next] → e.stage.working = true →
    next.stage = .queued → s.config.strict = 0 → s.mayLeaveWaiting = true → s.headTest next.op = true →
    ∃ t b, exec .stageTimeout s = .next t ∧ t.circ.lastBalance = some b ∧ b.cause = .operation ∧
      b.entry = some next.num ∧ (∀ x ∈ t.handler.queue, x.num = next.num ∧ x.op = next.op ∧ x.stage.working = true)) ∧
  (∀ s : State, s.running = true → s.pins.allstopN = false → exec .allstopFall s = .next s) ∧
  (∀ s : State, s.running = true → s.pins.allstopN = true →
    ∃ t, exec .allstopFall s = .next t ∧ t.pins = { s.pins with allstopN := false } ∧ t.handler.noPermit ∧
      t.pumpPermit = false ∧ t.isPending .allStop = true ∧ t.job.activity = .down ∧
      t.handler.holdFault = s.handler.holdFault ∧ t.handler.handlerFault = s.handler.handlerFault ∧
      t.rod.members = s.rod.members ∧ t.handler.carrier = s.handler.carrier ∧ Elsewhere s t ∧
      (s.handler.pastWaiting = false → t.handler.queue = s.handler.queue ∧ t.rod = s.rod) ∧
      (∀ e, s.handler.queue = [e] → e.stage.working = true → t.handler.queue = [] ∧
        (∀ tag, (t.rod.find tag).map (·.location) = ((s.rod.find tag).map (·.location)).map fun l =>
          if l = .inTransfer then .uncertain else l) ∧
        ∃ tag, t.handler.lastOutcome = some ⟨e.num, e.op.kind, some .allStop, tag⟩) ∧
      NextBecomesHead s t .allStop) ∧
  (∀ s : State, s.running = true → s.pins.allstopN = true → exec .allstopRise s = .next s) ∧
  (∀ s : State, s.running = true → s.pins.allstopN = false →
    ∃ t, exec .allstopRise s = .next t ∧ t.pins = { s.pins with allstopN := true } ∧ t.isPending .allStop = false ∧
      t.handler.holdFault = s.handler.holdFault ∧ t.handler.handlerFault = s.handler.handlerFault ∧
      t.rod.members = s.rod.members ∧ t.handler.carrier = s.handler.carrier ∧ Elsewhere s t ∧
      (s.handler.holdFault = false → s.handler.determinationMs = none → s.rod.members = [] →
        t.handler.slipsRel = true ∧ t.handler.elevRel = true) ∧
      (s.handler.holdFault = true → t.handler.noPermit))

/-- DETERMINATION_END settles the carrier one blanking time after a start: NONE with an empty string, whose releases are
then asserted; over a string the stored carrier if its input is high, else the other holder if its input is high;
with neither high the stored carrier stays and HOLD_FAULT latches. ELEVATOR gets no wrench permit (R73). With no
determination running nothing happens (R87, R88). With no stored carrier the slips are tried first (MODEL'S CHOICE
for a state that R69 excludes, log 32). -/
def Obligations.DeterminationSettlesCarrier : Prop :=
  ∀ s : State, s.running = true →
    (s.handler.determinationMs = none → exec .determinationEnd s = .next s) ∧
    (s.handler.determinationMs ≠ none →
      (s.rod.members = [] →
        ∃ t, exec .determinationEnd s = .next t ∧ t.handler.carrier = none ∧ t.handler.determinationMs = none ∧
          t.handler.queue = s.handler.queue ∧ t.rod = s.rod ∧ t.pins = s.pins ∧ Elsewhere s t ∧
          (s.pins.allstopN = true → s.handler.holdFault = false →
            t.handler.slipsRel = true ∧ t.handler.elevRel = true)) ∧
      (∀ h, s.rod.members ≠ [] → s.handler.carrier = some h → s.pins.closed h = true →
        ∃ t, exec .determinationEnd s = .next t ∧ t.handler.carrier = some h ∧ t.handler.determinationMs = none ∧
          t.handler.holdFault = s.handler.holdFault ∧ t.handler.queue = s.handler.queue ∧ t.rod = s.rod ∧
          t.pins = s.pins ∧ Elsewhere s t) ∧
      (∀ h o, s.rod.members ≠ [] → s.handler.carrier = some h → s.pins.closed h = false → o ≠ h →
        s.pins.closed o = true →
        ∃ t, exec .determinationEnd s = .next t ∧ t.handler.carrier = some o ∧ t.handler.determinationMs = none ∧
          t.handler.holdFault = s.handler.holdFault ∧ t.handler.queue = s.handler.queue ∧ t.rod = s.rod ∧
          (o = .elevator → t.handler.wrenchPermit = false) ∧ t.pins = s.pins ∧ Elsewhere s t) ∧
      (∀ h, s.rod.members ≠ [] → s.handler.carrier = some h → s.pins.slipsClosed = false → s.pins.elevClosed = false →
        ∃ t, exec .determinationEnd s = .next t ∧ t.handler.carrier = some h ∧ t.handler.determinationMs = none ∧
          t.handler.holdFault = true ∧ t.handler.noPermit ∧ t.rod.members = s.rod.members ∧ t.pins = s.pins ∧
          Elsewhere s t) ∧
      (s.rod.members ≠ [] → s.handler.carrier = none →
        ∃ t, exec .determinationEnd s = .next t ∧ t.handler.determinationMs = none ∧
          t.handler.carrier = (if s.pins.slipsClosed = true then some .slips
            else if s.pins.elevClosed = true then some .elevator else none) ∧
          t.handler.holdFault = (s.handler.holdFault || (!s.pins.slipsClosed && !s.pins.elevClosed)) ∧
          t.rod.members = s.rod.members ∧ t.pins = s.pins ∧ Elsewhere s t))

/-! ## Circulation, balance and sweeps -/

/-- SET PUMP writes both items of one pump, each brought within its range, with DONE_CLAMPED where either was outside,
and answers the effective stroke volume, displacement × efficiency centi-mL (R96, R97). MUD CHECK writes the mud density
brought within its range; while the hub's density is stale it is the density in use, and the expected hook load follows
it (R11, R122). Neither changes anything else. -/
def Obligations.PumpItemsAndMudDensityAreSet : Prop :=
  (∀ (s : State) (p : Pump) (disp eff : Nat), disp < 65536 → eff < 256 →
    s.accepts (.setPump (be 1 (pumpNumber p) ++ be 2 disp ++ be 1 eff)) = true →
    let d := if disp < 100 then 100 else if 40000 < disp then 40000 else disp
    let e := if eff < 50 then 50 else if 100 < eff then 100 else eff
    exec (.setPump (be 1 (pumpNumber p) ++ be 2 disp ++ be 1 eff)) s = .next ((s.setConfig (match p with
      | .a => { s.config with dispA := d, effA := e }
      | .b => { s.config with dispB := d, effB := e })).setPort { s.port with
        engine := .idle
        held := ⟨if d = disp ∧ e = eff then .done else .doneClamped,
          be 1 (pumpNumber p) ++ be 2 d ++ be 1 e ++ be 4 (d * e)⟩ })) ∧
  (∀ (s : State) (v : Nat), v < 65536 → s.accepts (.mudCheck (be 2 v)) = true →
    let m := if v < 1000 then 1000 else if 2400 < v then 2400 else v
    ∃ t, exec (.mudCheck (be 2 v)) s = .next t ∧
      t = (s.setConfig { s.config with mudDensity := m }).setPort t.port ∧
      (s.hub.density.stale = true → t.densityInUse = m ∧
        t.expectedHookLoad = s.rod.massSum * 981 * (7850 - m) / 7850000000 + s.config.blockWeight) ∧
      (s.hub.density.stale = false → t.expectedHookLoad = s.expectedHookLoad) ∧
      Replied s t (if m = v then .done else .doneClamped)
        (be 2 m ++ be 2 s.hub.density.value ++ flag (!s.hub.density.stale) ++
          be 2 (if s.hub.density.stale = true then m else s.hub.density.value)))

/-- The volumes, a millimetre of depth at a time. The cross-section of a circle is floor(d² × 7854 ÷ 10,000) (R89). The
members stand from the bit upward, and what is above the datum counts for nothing (R90). The annular volume is the hole's
area less the member's OD area, never below 0, over the depths from the surface to D, open hole counting whole (R91,
R92); the hole volume is the hole's area down to the hole depth (R93); the steel volume the member's OD area less its ID
area (R94); the hole added the hole's area from the reference depth down (R95); each in mm³, summed, then ÷ 1,000 once.
The survey's inputs and the instant evaluations take the string, the reported depth and the ACTIVE job's map as they
stand (R94, R95, R99); with no ACTIVE job the hole added is 0. -/
def Obligations.VolumesAreComputed : Prop :=
  (∀ d, area d = d * d * 7854 / 10000) ∧
  (∀ (j : Job) (slot depth : Nat) (ms : List Member), j.mapOk →
    let od (d : Nat) : Nat := ((memberAbove ms (depth - 1 - d)).map (·.od)).getD 0
    annularVolume ⟨slot, ms, depth, outline j.map, j.holeDepth⟩ =
      sumTo depth (fun d => area (holeAt j.map d) - area (od d)) / 1000 ∧
    holeVolume (outline j.map) = sumTo j.holeDepth (fun d => area (holeAt j.map d)) / 1000) ∧
  (∀ (depth : Nat) (ms : List Member), steelVolume depth ms =
    sumTo depth (fun d => ((memberAbove ms (depth - 1 - d)).map fun m => area m.od - area m.id).getD 0) / 1000) ∧
  (∀ s : State,
    let ms : List Member := s.rod.memberRecords.map fun r => ⟨r.tag, r.length, r.od, r.id⟩
    s.steelNow = steelVolume s.rod.repDepth ms ∧
    (s.activeJob = none → s.addedNow = 0 ∧ s.surveyInputs = ⟨0, ms, s.rod.repDepth, [], 0⟩) ∧
    (∀ n j, s.activeJob = some (n, j) →
      s.surveyInputs = ⟨n, ms, s.rod.repDepth, j.map.map (fun i => (i.top, i.bottom, i.diameter)), j.holeDepth⟩ ∧
      (j.mapOk → s.addedNow =
        sumTo j.holeDepth (fun d => if s.circ.ref.hRef ≤ d then area (holeAt j.map d) else 0) / 1000)))

/-- READ CIRCULATION asks the survey engine, starting a survey from the records as they stand or joining the one that
runs, and the port's engine stays BUSY with it (R99, R104); one that an exchange accepted has asked at its acceptance
(`ExchangeEndClassifiesBytes`), and its command then joins its own survey (MODEL'S CHOICE, log 42). SURVEY_COMPLETE
answers the READ waiter with the snapshot's slot, depth, hole depth, member count, its annular, hole and steel volumes,
all 0 with no ACTIVE job, and the restarts, and with the pumps' figures as they stand at the completion, items, pumping
state, strokes and pumped mL of each and the combined mL, and frees the engine (R101, R102, R104); it gives a SWEEP
waiter, beside a READ waiter or alone, its target, floor(annular volume × factor ÷ 100), which progress already reached
completes the sweep, the owed flag and the overdue mark clearing (R132, R133, R136). With no survey running nothing
happens. -/
def Obligations.CirculationIsSurveyed : Prop :=
  (∀ s : State, s.accepts (.readCirculation []) = true →
    (s.circ.survey = none → exec (.readCirculation []) s = .next ((s.setCirc { s.circ with
      survey := some ⟨s.surveyInputs, true, false, 0, 0⟩ }).setPort { s.port with engine := .surveying })) ∧
    (∀ v, s.circ.survey = some v → exec (.readCirculation []) s = .next ((s.setCirc { s.circ with
      survey := some { v with readWaits := true } }).setPort { s.port with engine := .surveying }))) ∧
  (∀ s : State, s.running = true →
    (s.circ.survey = none → exec .surveyComplete s = .next s) ∧
    (∀ v, s.circ.survey = some v →
      let x := v.snapshot
      let annular := if x.slot = 0 then 0 else annularVolume x
      let hole := if x.slot = 0 then 0 else holeVolume x.map
      let steel := if x.slot = 0 then 0 else steelVolume x.depth x.members
      let goal := annular * s.config.sweepFactor / 100
      let answered : PortUnit := { s.port with
        engine := .idle
        held := ⟨.done, be 1 x.slot ++ be 4 x.depth ++ be 4 x.holeDepth ++ be 1 x.members.length ++
          be 4 annular ++ be 4 hole ++ be 4 steel ++ be 2 v.restarts ++
          (be 2 s.config.dispA ++ be 1 s.config.effA ++ be 1 s.hub.pumpA.state.code ++ be 4 s.circ.pumpA.strokes ++
            be 6 (s.circ.pumpA.volume / 100)) ++
          (be 2 s.config.dispB ++ be 1 s.config.effB ++ be 1 s.hub.pumpB.state.code ++ be 4 s.circ.pumpB.strokes ++
            be 6 (s.circ.pumpB.volume / 100)) ++
          be 6 ((s.circ.pumpA.volume + s.circ.pumpB.volume) / 100)⟩ }
      let waiting := s.port.engine = .surveying ∨ ∃ ms, s.port.engine = .accepted 0x51 [] ms
      (v.readWaits = true → v.sweepWaits = false → waiting →
        exec .surveyComplete s = .next ((s.setCirc { s.circ with survey := none }).setPort answered)) ∧
      (∀ r, v.readWaits = true → v.sweepWaits = true → waiting → s.sweep.current = some r →
        (r.progress < 100 * goal →
          exec .surveyComplete s = .next (((s.setCirc { s.circ with survey := none }).setSweep { s.sweep with
            current := some { r with target := some goal } }).setPort answered)) ∧
        (100 * goal ≤ r.progress →
          ∃ t, exec .surveyComplete s = .next t ∧ t.circ.survey = none ∧ t.port = answered ∧ t.pins = s.pins ∧
            t.config = s.config ∧ t.rod.members = s.rod.members ∧
            t.sweep = ⟨s.sweep.counter, false, false, none,
              some ⟨.completed, s.activeSlot, some goal, some (r.progress / 100), s.sweep.overdue⟩⟩)) ∧
      (∀ r, v.readWaits = false → v.sweepWaits = true → s.sweep.current = some r → r.progress < 100 * goal →
        exec .surveyComplete s = .next ((s.setCirc { s.circ with survey := none }).setSweep { s.sweep with
          current := some { r with target := some goal } })) ∧
      (∀ r, v.readWaits = false → v.sweepWaits = true → s.sweep.current = some r → 100 * goal ≤ r.progress →
        ∃ t, exec .surveyComplete s = .next t ∧ t.circ.survey = none ∧ t.port = s.port ∧ t.pins = s.pins ∧
          t.config = s.config ∧ t.rod.members = s.rod.members ∧
          t.sweep = ⟨s.sweep.counter, false, false, none,
            some ⟨.completed, s.activeSlot, some goal, some (r.progress / 100), s.sweep.overdue⟩⟩)))

/-- REBASE BALANCE is refused with WRONG_STATE while the pit level is stale (R120). Else the present pit, hole depth and
steel become the reference and LOSS and GAIN clear (R109). With the reference INVALID nothing is booked and the record
says REBASED_ONLY. With it VALID the balance, measured less expected (R108, R110), is booked: below the balance
hysteresis nothing, without an ACTIVE job nothing, else a loss or an inflow to the interval at the reported bit depth
(R36, R117), and the record holds it (R118). The reply carries the record, always present there, without a presence byte
(MODEL'S CHOICE, log 14), its handler entry with one (MODEL'S CHOICE, log 41), and then the reference. -/
def Obligations.BalanceIsRebased : Prop :=
  ∀ s : State, s.accepts (.rebaseBalance []) = true →
    (s.hub.pitLevel.stale = true → Refused (.rebaseBalance []) s .wrongState) ∧
    (s.hub.pitLevel.stale = false →
      let measured := s.hub.pitLevel.value * s.config.pitArea * 10
      let b : Int := (measured : Int) - ((s.circ.ref.pRef : Int) - s.addedNow + s.steelNow - s.circ.ref.sRef)
      let mag := b.natAbs
      let small := mag < s.config.balanceHyst * 1000
      let rebased (t : State) (r : BalanceRecord) : Prop :=
        t = ((s.setJob { s.job with jobs := t.job.jobs }).setCirc { s.circ with
          ref := ⟨true, measured, s.holeDepth, s.steelNow⟩, loss := false, gain := false, lastBalance := some r }).setPort
          t.port ∧
        Replied s t .done (be 1 r.cause.code ++ be 1 r.outcome.code ++ optInt 4 r.balance ++ opt 4 r.depth ++
          be 1 r.slot ++ opt 1 r.entry ++ be 4 measured ++ be 4 s.holeDepth ++ be 4 s.steelNow)
      ∃ t, exec (.rebaseBalance []) s = .next t ∧
        (s.circ.ref.valid = false → t.job.jobs = s.job.jobs ∧
          rebased t ⟨.rebase, .rebasedOnly, none, none, s.activeSlot, none⟩) ∧
        (s.circ.ref.valid = true → small → t.job.jobs = s.job.jobs ∧
          rebased t ⟨.rebase, .belowHysteresis, some b, none, s.activeSlot, none⟩) ∧
        (s.circ.ref.valid = true → ¬small → s.activeJob = none → t.job.jobs = s.job.jobs ∧
          rebased t ⟨.rebase, .discardedNoJob, some b, none, 0, none⟩) ∧
        (∀ n j, s.circ.ref.valid = true → ¬small → s.activeJob = some (n, j) → j.mapOk →
          ∃ m, t.job.jobs.get n = some { j with map := m } ∧ OtherSlots n s t ∧
            BookedAt j s.rod.repDepth mag (decide (b < 0)) m ∧
            rebased t ⟨.rebase, if b < 0 then .bookedLoss else .bookedInflow, some b, some s.rod.repDepth, n, none⟩))

/-- A pit level value taken drives PIT_LOW from the low pit level and the pit hysteresis (R115); with the reference
INVALID it becomes the reference (R112); with it VALID and the balance settled it sets and clears LOSS and GAIN by the
thresholds and the effective hysteresis (R113), and unsettled it leaves them (R111). Stated for a frame in which slot 3
alone is valid and no other quantity that the activity reads goes stale. -/
def Obligations.PitLevelDrivesLossGainAndPitLow : Prop :=
  ∀ (s : State) (f : BitVec 120) (v : Nat), s.running = true → s.hub.frameOpen = true → slotOf f 3 = some v →
    (∀ k ∈ [1, 2, 4, 5, 6, 7], slotOf f k = none) → s.hub.strokesA.invalid < 24 → s.hub.strokesB.invalid < 24 →
    s.hub.rotary.invalid < 24 →
    let p := min v 4000
    let measured := p * s.config.pitArea * 10
    let b : Int := (measured : Int) - ((s.circ.ref.pRef : Int) - s.addedNow + s.steelNow - s.circ.ref.sRef)
    let hyst (threshold : Nat) : Nat := if s.config.balanceHyst < threshold then s.config.balanceHyst else threshold - 10
    let atLeast (l : Nat) : Int := (l : Int) * 1000
    ∃ t, exec (.frameArrival f) s = .next t ∧ t.hub.pitLevel = ⟨p, 0⟩ ∧ t.circ.pitTaken = true ∧
      t.circ.pitLow = (if p ≤ s.config.lowPit then true
        else if s.config.lowPit + s.config.pitHyst ≤ p then false else s.circ.pitLow) ∧
      t.rod = s.rod ∧ t.job.jobs = s.job.jobs ∧ t.handler = s.handler ∧ t.circ.settleMs = s.circ.settleMs ∧
      (s.circ.ref.valid = false → t.circ.ref = ⟨true, measured, s.holeDepth, s.steelNow⟩ ∧ t.circ.loss = false ∧
        t.circ.gain = false ∧
        t.circ.lastBalance = some ⟨.firstValue, .rebasedOnly, none, none, s.activeSlot, none⟩) ∧
      (s.circ.ref.valid = true → t.circ.ref = s.circ.ref ∧ t.circ.lastBalance = s.circ.lastBalance) ∧
      (s.circ.ref.valid = true → s.circ.settleMs < s.config.settleTime * 1000 →
        t.circ.loss = s.circ.loss ∧ t.circ.gain = s.circ.gain) ∧
      (s.circ.ref.valid = true → s.config.settleTime * 1000 ≤ s.circ.settleMs →
        t.circ.loss = (if b ≤ -atLeast s.config.lossThreshold then true
          else if b ≥ -atLeast (s.config.lossThreshold - hyst s.config.lossThreshold) then false else s.circ.loss) ∧
        t.circ.gain = (if b ≥ atLeast s.config.gainThreshold then true
          else if b ≤ atLeast (s.config.gainThreshold - hyst s.config.gainThreshold) then false else s.circ.gain))

/-- SETTLE_REACHED makes the balance settled (R111): with an empty queue that is all; a TRANSFER HOLD that waits for
nothing else then leaves WAITING toward a target that is not the carrier (R71, R74). SWEEP_HOLD_EXPIRY ends a held sweep
with ENDED_HOLD while it stays owed, withdrawing the SWEEP waiter (R103, R134, R136); without a hold nothing happens. The
timers that a command says have expired stand at their limits (log 2). -/
def Obligations.SettlingAndSweepHoldEnd : Prop :=
  (∀ s : State, s.running = true →
    (s.settled = true → exec .settleReached s = .next s) ∧
    (s.settled = false → s.handler.queue = [] →
      exec .settleReached s = .next (s.setCirc { s.circ with settleMs := s.config.settleTime * 1000 })) ∧
    (s.settled = false → ∀ num h rest, s.handler.queue = [⟨num, .transferHold h, .waiting, rest⟩] →
      s.sweep.owed = false → s.hub.pumpA.state = .stopped → s.hub.pumpB.state = .stopped → s.rotating = .no →
      s.handler.holdFault = false → s.handler.handlerFault = false → s.pins.allstopN = true → s.rod.members ≠ [] →
      s.handler.carrier ≠ some h →
      ∃ t, exec .settleReached s = .next t ∧ t.settled = true ∧
        t.handler.queue = [⟨num, .transferHold h, .setting, []⟩] ∧
        t.handler.headNote = some ⟨num, .transferHold, none⟩ ∧
        t.handler.transfer = some ⟨h, if s.pins.closed h = true then some 0 else none⟩ ∧
        t.handler.noPermit ∧ t.rod = s.rod ∧ Elsewhere s t)) ∧
  (∀ s : State, s.running = true →
    (s.sweep.current.bind (·.holdMs) = none → exec .sweepHoldExpiry s = .next s) ∧
    (∀ r m, s.sweep.current = some r → r.holdMs = some m → s.anyPumping = false →
      exec .sweepHoldExpiry s = .next ((s.setSweep { s.sweep with
        current := none
        last := some ⟨.endedHold, s.activeSlot, r.target, some (r.progress / 100), s.sweep.overdue⟩ }).setCirc
        { s.circ with
          survey := s.circ.survey.bind fun v => if v.readWaits then some { v with sweepWaits := false } else none })))

/-- REQUEST SWEEP, refused with NO_JOB without an ACTIVE job, sets the owed flag and moves neither the counter nor the
overdue mark; the flag being set starts a sweep where the pumps, the handler and the activity allow it, which asks for a
survey (R99, R130, R137); already owed it changes nothing. WAIVE SWEEP, refused with WRONG_STATE with none owed, clears
the flag and the mark, ends the sweep in progress with WAIVED and counts a waiver against the ACTIVE job, up to 255
(R103, R136, R138). MODEL'S CHOICE: a sweep owed with no ACTIVE job, which R127 excludes, is waived with a slot and a
count of 0 in the reply (log 32). -/
def Obligations.SweepsAreRequestedAndWaived : Prop :=
  (∀ s : State, s.accepts (.requestSweep []) = true →
    (s.activeJob = none → Refused (.requestSweep []) s .noJob) ∧
    (s.activeJob ≠ none →
      let starts := s.anyPumping = true ∧ s.handler.pastWaiting = false ∧ s.job.activity ≠ .drilling ∧
        s.sweep.current = none
      ∃ t, exec (.requestSweep []) s = .next t ∧
        Replied s t .done (flag true ++ flag s.sweep.overdue ++ be 4 s.sweep.counter) ∧
        (s.sweep.owed = true ∨ ¬starts → t = (s.setSweep { s.sweep with owed := true }).setPort t.port) ∧
        (s.sweep.owed = false → starts → t = ((s.setSweep { s.sweep with
          owed := true, current := some ⟨0, none, none⟩ }).setCirc { s.circ with
            survey := match s.circ.survey with
              | some v => some { v with sweepWaits := true }
              | none => some ⟨s.surveyInputs, false, true, 0, 0⟩ }).setPort t.port))) ∧
  (∀ s : State, s.accepts (.waiveSweep []) = true →
    (s.sweep.owed = false → Refused (.waiveSweep []) s .wrongState) ∧
    (s.sweep.owed = true → ∃ t, exec (.waiveSweep []) s = .next t ∧
      t.sweep = ⟨s.sweep.counter, false, false, none, some ⟨.waived, s.activeSlot, s.sweep.current.bind (·.target),
        s.sweep.current.map (·.progress / 100), s.sweep.overdue⟩⟩ ∧
      t.circ.survey = s.circ.survey.bind (fun v => if v.readWaits then some { v with sweepWaits := false } else none) ∧
      (s.activeJob = none → Replied s t .done (be 1 0 ++ be 1 0)) ∧
      (∀ n j, s.activeJob = some (n, j) →
        (t.job.jobs.get n).map (·.waived) = some (min (j.waived + 1) 255) ∧ OtherSlots n s t ∧
        Replied s t .done (be 1 n ++ be 1 (min (j.waived + 1) 255)) ∧
        (s.handler.queue = [] → t.job.jobs.get n = some { j with waived := min (j.waived + 1) 255 })) ∧
      (s.handler.queue = [] → t.rod = s.rod ∧ t.handler = s.handler ∧ t.circ.ref = s.circ.ref) ∧
      t.hub = s.hub ∧ t.pricing = s.pricing ∧ t.config = s.config ∧ t.power = s.power ∧ t.pins = s.pins))

/-! ## Jobs and rig time -/

/-- OPEN JOB takes the lowest free slot and one pool record: the new job is ACTIVE with its fields, zero counters and a
map of one zero-length interval, UNKNOWN formation, hardness 1, the job's bit diameter (R30, R146). The refusals
come in the order of R146. While the pit level is fresh the balance reference is the present pit with a hole of 0,
LOSS and GAIN clear and the record says OPEN_JOB; while it is stale the reference becomes INVALID (R121). The reply
is page 0 of LOOK UP JOB, whose fields `JobsAreReadAndRetired` spells out. -/
def Obligations.JobIsOpened : Prop :=
  ∀ (s : State) (x : NewJob), x.customer < 4294967296 → (∀ v ∈ x.site, v.length = 16 ∧ isText v = true) →
    1000 ≤ x.bandWidth → x.bandWidth ≤ 500000 → 50 ≤ x.bit → x.bit ≤ 900 →
    let i := Instr.openJob (be 4 x.customer ++ optText 16 x.site ++ be 4 x.bandWidth ++ be 2 x.bit)
    s.accepts i = true →
    (s.activeJob ≠ none → Refused i s .wrongState) ∧
    (s.activeJob = none → s.rod.members ≠ [] → Refused i s .wrongState) ∧
    (s.activeJob = none → s.rod.members = [] →
      ((∀ m ∈ jobSlots, s.job.jobs.get m ≠ none) → Refused i s .full) ∧
      (s.poolFree = 0 → Refused i s .full) ∧
      (∀ n ∈ jobSlots, s.job.jobs.get n = none → (∀ m ∈ jobSlots, m < n → s.job.jobs.get m ≠ none) → 0 < s.poolFree →
        ∃ t, exec i s = .next t ∧ OtherSlots n s t ∧ t.poolFree + 1 = s.poolFree ∧
          t.job.jobs.get n = some
            { state := .active, customer := x.customer, site := x.site, bandWidth := x.bandWidth, bit := x.bit,
              holeDepth := 0, map := [⟨0, 0, 0, 1, x.bit, 0, 0, 0, false, none⟩], seconds := ⟨0, 0, 0, 0, 0, 0, 0, 0⟩,
              waived := 0, lines := [], total := 0 } ∧
          (s.hub.pitLevel.stale = true → t.circ.ref = { s.circ.ref with valid := false } ∧ t.circ.loss = s.circ.loss ∧
            t.circ.gain = s.circ.gain ∧ t.circ.lastBalance = s.circ.lastBalance) ∧
          (s.hub.pitLevel.stale = false →
            t.circ.ref = ⟨true, s.hub.pitLevel.value * s.config.pitArea * 10, 0, 0⟩ ∧ t.circ.loss = false ∧
            t.circ.gain = false ∧ t.circ.lastBalance = some ⟨.openJob, .rebasedOnly, none, none, n, none⟩) ∧
          t.rod = s.rod ∧ t.bore = s.bore ∧ t.handler = s.handler ∧ t.hub = s.hub ∧ t.pricing = s.pricing ∧
          t.config = s.config ∧ t.power = s.power ∧ t.pins = s.pins ∧
          Replied s t .done (jobPage0 t n (t.job.jobs.get n))))

/-- COMPLETE JOB, refused without an ACTIVE job, with a member in the string or with an entry in the queue, in that
order, makes the ACTIVE job COMPLETE after a booking with cause COMPLETE (R117, R147), ends the sweep state with
ENDED_JOB_COMPLETE and a counter of 0 (R139), and leaves no ACTIVE job and, unless the pit level was stale, the present
pit as the reference with a hole of 0 (R109). The reply is page 0 of LOOK UP JOB, by `JobsAreReadAndRetired`. -/
def Obligations.ActiveJobIsCompleted : Prop :=
  ∀ s : State, s.accepts (.completeJob []) = true → SweepOk s → PoolOk s →
    (s.activeJob = none → Refused (.completeJob []) s .noJob) ∧
    (s.activeJob ≠ none → s.rod.members ≠ [] → Refused (.completeJob []) s .wrongState) ∧
    (s.activeJob ≠ none → s.rod.members = [] → s.handler.queue ≠ [] → Refused (.completeJob []) s .wrongState) ∧
    (∀ n j, s.activeJob = some (n, j) → s.rod.members = [] → s.handler.queue = [] → j.mapOk →
      let measured := s.hub.pitLevel.value * s.config.pitArea * 10
      let b : Int := (measured : Int) - ((s.circ.ref.pRef : Int) - s.addedNow + s.steelNow - s.circ.ref.sRef)
      ∃ t m, exec (.completeJob []) s = .next t ∧ t.job.jobs.get n = some { j with state := .complete, map := m } ∧
        OtherSlots n s t ∧ t.activeJob = none ∧
        t.sweep = { s.sweep with
          counter := 0, owed := false, overdue := false, current := none
          last := if s.sweep.owed = true then some ⟨.endedJobComplete, n, s.sweep.current.bind (·.target),
            s.sweep.current.map (·.progress / 100), s.sweep.overdue⟩ else s.sweep.last } ∧
        (s.hub.pitLevel.stale = true → m = j.map ∧ t.circ.ref = s.circ.ref ∧ t.circ.loss = s.circ.loss ∧
          t.circ.gain = s.circ.gain ∧
          t.circ.lastBalance = some ⟨.complete, .skippedStale, none, none, n, none⟩) ∧
        (s.hub.pitLevel.stale = false → t.circ.ref = ⟨true, measured, 0, s.steelNow⟩ ∧ t.circ.loss = false ∧
          t.circ.gain = false ∧ ∃ r, t.circ.lastBalance = some r ∧ r.cause = .complete ∧ r.slot = n ∧
            (s.circ.ref.valid = false → r.outcome = .rebasedOnly ∧ m = j.map) ∧
            (s.circ.ref.valid = true → b.natAbs < s.config.balanceHyst * 1000 →
              r.outcome = .belowHysteresis ∧ m = j.map) ∧
            (s.circ.ref.valid = true → s.config.balanceHyst * 1000 ≤ b.natAbs →
              r.outcome = (if b < 0 then .bookedLoss else .bookedInflow) ∧
              BookedAt j s.rod.repDepth b.natAbs (decide (b < 0)) m)) ∧
        t.rod = s.rod ∧ t.handler = s.handler ∧ t.hub = s.hub ∧ t.pricing = s.pricing ∧ t.config = s.config ∧
        t.power = s.power ∧ t.pins = s.pins ∧ Replied s t .done (jobPage0 t n (t.job.jobs.get n)))

/-- LOOK UP JOB reports a page of a slot's record, slot 0 naming the ACTIVE job, with NOT_FOUND for a free slot, and
removes the slot from the unpriced set (R148, R174). Page 0 holds the slot, the record's fields, the numbers of its
intervals, mismatch marks and strikes, its lost mud and inflow summed, its waivers, lines and total, and the free
pool count; page 1 the eight counters, the activity with its hold mark (R152), and the idle or standby timer in
seconds. RETIRE JOB frees a SETTLED job's slot, or a COMPLETE job's under the keyswitch, whose level it samples: its
intervals return to the pool (R25, R26) and its slot leaves the unpriced set; ACTIVE and PRICED are refused with
WRONG_STATE, a COMPLETE one without the keyswitch with LOCKED (R149). RETIRE JOB's reply is the record as it stood,
with the free pool count before the intervals return (MODEL'S CHOICE, log 29). -/
def Obligations.JobsAreReadAndRetired : Prop :=
  (∀ (s : State) (n : Nat) (x : Option Job), jobPage0 s n x =
    be 1 n ++ (match x with
      | some j => [1] ++ be 1 j.state.code ++ be 4 j.customer ++ optText 16 j.site ++ be 4 j.bandWidth ++ be 2 j.bit ++
          be 4 j.holeDepth ++ be 1 j.map.length ++ be 1 (j.map.filter fun i => i.mismatch).length ++
          be 1 (j.map.filter fun i => i.strike.isSome).length ++ be 6 (j.map.map (·.lostMud)).sum ++
          be 6 (j.map.map (·.inflow)).sum ++ be 1 j.waived ++ be 1 j.lines.length ++ be 6 j.total
      | none => List.replicate 56 0) ++ be 1 (128 - (jobSlots.map s.job.jobs.intervalsAt).sum)) ∧
  (∀ (s : State) (slot page : Nat), slot ≤ 4 → page ≤ 1 → s.accepts (.lookUpJob (be 1 slot ++ be 1 page)) = true →
    let body (n : Nat) (x : Option Job) : List Byte := if page = 0 then jobPage0 s n x else
      be 1 n ++ (match x with
        | some j => [1] ++ be 4 j.seconds.down ++ be 4 j.seconds.drilling ++ be 4 j.seconds.reaming ++
            be 4 j.seconds.tripping ++ be 4 j.seconds.circulating ++ be 4 j.seconds.idle ++ be 4 j.seconds.standby ++
            be 4 j.seconds.shutdown
        | none => List.replicate 33 0) ++ be 1 s.job.activity.code ++
        be 1 (if s.rotating = .unknown ∨ s.hub.pumpA.state = .unknown ∨ s.hub.pumpB.state = .unknown then 1 else 0) ++
        be 4 (if s.job.activity = .idle then min (s.job.idleMs / 1000) 4294967295
          else if s.job.activity = .standby then min (s.job.standbyMs / 1000) 4294967295 else 0)
    let answer (n : Nat) (j : Option Job) : State :=
      (s.setPricing { s.pricing with unpriced := s.pricing.unpriced.filter fun m => m != n }).setPort
        { s.port with held := ⟨.done, body n j⟩, engine := .idle }
    (slot = 0 → s.activeJob = none → exec (.lookUpJob (be 1 slot ++ be 1 page)) s = .next (answer 0 none)) ∧
    (∀ n j, slot = 0 → s.activeJob = some (n, j) →
      exec (.lookUpJob (be 1 slot ++ be 1 page)) s = .next (answer n (some j))) ∧
    (slot ≠ 0 → s.job.jobs.get slot = none → Refused (.lookUpJob (be 1 slot ++ be 1 page)) s .notFound) ∧
    (∀ j, slot ≠ 0 → s.job.jobs.get slot = some j →
      exec (.lookUpJob (be 1 slot ++ be 1 page)) s = .next (answer slot (some j)))) ∧
  (∀ (s : State) (key : Bool) (slot : Nat), 1 ≤ slot → slot ≤ 4 → s.accepts (.retireJob key (be 1 slot)) = true →
    let u := s.setPins { s.pins with rateKey := key }
    (s.job.jobs.get slot = none → exec (.retireJob key (be 1 slot)) s = .next (u.refused .notFound)) ∧
    (∀ j, s.job.jobs.get slot = some j →
      (j.state = .active ∨ j.state = .priced → exec (.retireJob key (be 1 slot)) s = .next (u.refused .wrongState)) ∧
      (j.state = .complete → key = false → exec (.retireJob key (be 1 slot)) s = .next (u.refused .locked)) ∧
      (j.state = .settled ∨ (j.state = .complete ∧ key = true) →
        ∃ t, exec (.retireJob key (be 1 slot)) s = .next t ∧ t.job.jobs.get slot = none ∧ OtherSlots slot s t ∧
          t = (((u.setJob { s.job with jobs := t.job.jobs }).setPricing { s.pricing with
            unpriced := s.pricing.unpriced.filter fun m => m != slot }).setBore { s.bore with
            poolExhausted := s.bore.poolExhausted && decide (t.poolFree ≤ 8) }).setPort t.port ∧
          (s.poolFree + j.map.length ≤ 128 → PoolOk s → t.poolFree = s.poolFree + j.map.length) ∧
          Replied s t .done (jobPage0 s slot (some j)))))

/-- IDLE_GRACE_EXPIRY steps IDLE to STANDBY and STANDBY_LIMIT_EXPIRY steps STANDBY to SHUTDOWN, each stopping the
timers of the idle family; at any other activity nothing happens (R153). SECOND_MARK adds one second, up to
4,294,967,295, to the ACTIVE job's counter of the present activity, in the order of R150, and while DRILLING to its
deepest interval (R154, R155), and then derives the activity anew by the table of R150 with the hold of R152; a change of
it is an evaluation event, at which an owed sweep may start (R130). A timer that does not run is held as 0 (MODEL'S
CHOICE, log 8). -/
def Obligations.IdleFamilyAndSecondMarks : Prop :=
  (∀ s : State, s.running = true →
    (s.job.activity ≠ .idle → exec .idleGraceExpiry s = .next s) ∧
    (s.job.activity = .idle → ∃ t, exec .idleGraceExpiry s = .next t ∧
      t.job = { s.job with activity := .standby, idleMs := 0, standbyMs := 0 } ∧ t.rod = s.rod ∧
      t.handler = s.handler ∧ Elsewhere s t ∧
      (s.anyPumping = false → t = s.setJob { s.job with activity := .standby, idleMs := 0, standbyMs := 0 })) ∧
    (s.job.activity ≠ .standby → exec .standbyLimitExpiry s = .next s) ∧
    (s.job.activity = .standby → ∃ t, exec .standbyLimitExpiry s = .next t ∧
      t.job = { s.job with activity := .shutdown, idleMs := 0, standbyMs := 0 } ∧ t.rod = s.rod ∧
      t.handler = s.handler ∧ Elsewhere s t ∧
      (s.anyPumping = false → t = s.setJob { s.job with activity := .shutdown, idleMs := 0, standbyMs := 0 }))) ∧
  (∀ s : State, s.running = true →
    let down := s.handler.holdFault = true ∨ s.handler.handlerFault = true ∨ s.pins.allstopN = false
    let bottom := ∃ n j, s.activeJob = some (n, j) ∧ j.holeDepth ≤ s.rod.rawDepth + s.config.onBottomTol
    let pumping := s.hub.pumpA.state = .pumping ∨ s.hub.pumpB.state = .pumping
    let held := s.rotating = .unknown ∨ s.hub.pumpA.state = .unknown ∨ s.hub.pumpB.state = .unknown
    ∃ t, exec .secondMark s = .next t ∧ t.job.secondMs = 0 ∧ t.rod = s.rod ∧ t.handler = s.handler ∧ Elsewhere s t ∧
      (s.activeJob = none → t.job.jobs = s.job.jobs) ∧
      (∀ n j, s.activeJob = some (n, j) → OtherSlots n s t ∧
        ∃ j', t.job.jobs.get n = some j' ∧ j' = { j with seconds := j'.seconds, map := j'.map } ∧
          j'.seconds.toList = j.seconds.toList.zipIdx.map (fun p =>
            if p.2 = s.job.activity.code then min (p.1 + 1) 4294967295 else p.1) ∧
          (s.job.activity ≠ .drilling → j'.map = j.map) ∧
          (∀ pre i, s.job.activity = .drilling → j.map = pre ++ [i] →
            j'.map = pre ++ [{ i with drillSec := min (i.drillSec + 1) 4294967295 }])) ∧
      (down → t.job.activity = .down) ∧
      (¬down → held → t.job.activity = s.job.activity) ∧
      (¬down → ¬held →
        (s.rotating = .yes → pumping → bottom → t.job.activity = .drilling) ∧
        (s.rotating = .yes → ¬bottom → t.job.activity = .reaming) ∧
        (¬(s.rotating = .yes ∧ (pumping ∨ ¬bottom)) → s.handler.pastWaiting = true → t.job.activity = .tripping) ∧
        (¬(s.rotating = .yes ∧ (pumping ∨ ¬bottom)) → s.handler.pastWaiting = false → pumping →
          t.job.activity = .circulating) ∧
        (¬(s.rotating = .yes ∧ (pumping ∨ ¬bottom)) → s.handler.pastWaiting = false → ¬pumping →
          t.job.activity = if s.job.activity ∈ [.idle, .standby, .shutdown] then s.job.activity else .idle)) ∧
      (t.job.activity = s.job.activity → t.job.idleMs = s.job.idleMs ∧ t.job.standbyMs = s.job.standbyMs) ∧
      (t.job.activity ≠ s.job.activity → t.job.idleMs = 0 ∧ t.job.standbyMs = 0) ∧
      (let starts := t.job.activity ≠ s.job.activity ∧ t.job.activity ≠ .drilling ∧ s.sweep.owed = true ∧
        s.sweep.current = none ∧ pumping ∧ s.handler.pastWaiting = false
      (starts → t.sweep = { s.sweep with current := some ⟨0, none, none⟩ }) ∧ (¬starts → t.sweep = s.sweep)))

/-! ## Rates, pricing and invoices -/

/-- ENTER RATE makes an invalid entry valid, AMEND RATE replaces every field of a valid one and RETIRE RATE makes one
invalid, each changing that entry alone; the keyswitch off is refused with LOCKED, a valid entry to be entered with
IN_USE, an invalid one to be changed with NOT_FOUND, an entry whose use count is not 0 with IN_USE, in that order (R161
to R165). The level of the keyswitch is sampled at the request. RETIRE RATE's reply carries the entry as it stood. -/
def Obligations.RateEntriesAreEdited : Prop :=
  ∀ (s : State) (key : Bool) (index : Nat), index ≤ 31 →
    let u := s.setPins { s.pins with rateKey := key }
    let edited (e : Option RateEntry) (shown : RateEntry) : Host.Outcome State Fault Refusal :=
      .next ((u.setPricing { s.pricing with rates := s.pricing.rates.set index e }).setPort { s.port with
        held := ⟨.done, be 1 index ++ [1] ++ rateFields shown ++ be 1 (s.useCount index)⟩, engine := .idle })
    (∀ e : RateEntry, (∀ f ∈ e.hardness, 1 ≤ f.1 ∧ f.1 ≤ f.2 ∧ f.2 ≤ 8) → (∀ f ∈ e.band, f.1 ≤ f.2 ∧ f.2 ≤ 15) →
      (∀ f ∈ e.diameter, 50 ≤ f.1 ∧ f.1 ≤ f.2 ∧ f.2 ≤ 900) → (∀ a ∈ e.activity, a ≤ 7) → e.rate ≤ 1000000 →
      (∀ v ∈ e.label, v.length = 12 ∧ isText v = true) →
      let enter := Instr.enterRate key (be 1 index ++ rateFields e)
      let amend := Instr.amendRate key (be 1 index ++ rateFields e)
      (s.accepts enter = true →
        (key = false → exec enter s = .next (u.refused .locked)) ∧
        (key = true → s.pricing.entry index ≠ none → exec enter s = .next (u.refused .inUse)) ∧
        (key = true → s.pricing.entry index = none → exec enter s = edited (some e) e)) ∧
      (s.accepts amend = true →
        (key = false → exec amend s = .next (u.refused .locked)) ∧
        (key = true → s.pricing.entry index = none → exec amend s = .next (u.refused .notFound)) ∧
        (key = true → s.pricing.entry index ≠ none → s.useCount index ≠ 0 → exec amend s = .next (u.refused .inUse)) ∧
        (key = true → s.pricing.entry index ≠ none → s.useCount index = 0 → exec amend s = edited (some e) e))) ∧
    (s.accepts (.retireRate key (be 1 index)) = true →
      (key = false → exec (.retireRate key (be 1 index)) s = .next (u.refused .locked)) ∧
      (key = true → s.pricing.entry index = none → exec (.retireRate key (be 1 index)) s = .next (u.refused .notFound)) ∧
      (∀ e, key = true → s.pricing.entry index = some e →
        (s.useCount index ≠ 0 → exec (.retireRate key (be 1 index)) s = .next (u.refused .inUse)) ∧
        (s.useCount index = 0 → exec (.retireRate key (be 1 index)) s = edited none e)))

/-- PRICE JOB, refused with NOT_FOUND for a free slot and WRONG_STATE unless the job is COMPLETE, builds the lines in a
working store and keeps the engine BUSY; its time counts from the acceptance of the request (R181). PRICING_COMPLETE
writes them: the job is PRICED with its lines and their sum as the total, every entry that made a line is used once
more (R161), the slot joins the unpriced set if a line is unpriced (R174), and the reply is made (R167). With no
pricing running nothing happens. -/
def Obligations.PricingRunsAndCompletes : Prop :=
  (∀ (s : State) (slot : Nat), 1 ≤ slot → slot ≤ 4 → s.accepts (.priceJob (be 1 slot)) = true →
    (s.job.jobs.get slot = none → Refused (.priceJob (be 1 slot)) s .notFound) ∧
    (∀ j, s.job.jobs.get slot = some j → j.state ≠ .complete → Refused (.priceJob (be 1 slot)) s .wrongState) ∧
    (∀ j, s.job.jobs.get slot = some j → j.state = .complete →
      let started (ms : Nat) : State := (s.setPricing { s.pricing with
        working := some ⟨slot, priceLines s.pricing.rates j, ms⟩ }).setPort { s.port with engine := .pricing }
      (s.port.engine = .idle → exec (.priceJob (be 1 slot)) s = .next (started 0)) ∧
      (∀ ms, s.port.engine = .accepted 0x84 (be 1 slot) ms →
        exec (.priceJob (be 1 slot)) s = .next (started ms)))) ∧
  (∀ s : State, s.running = true →
    (s.pricing.working = none → exec .pricingComplete s = .next s) ∧
    (∀ w j, s.pricing.working = some w → s.job.jobs.get w.slot = some j → j.state = .complete →
      ∃ t, exec .pricingComplete s = .next t ∧
        t.job.jobs.get w.slot = some { j with
          state := .priced, lines := w.lines, total := (w.lines.map (·.amount)).sum } ∧
        OtherSlots w.slot s t ∧
        t = ((s.setJob { s.job with jobs := t.job.jobs }).setPricing { s.pricing with
          working := none, unpriced := t.pricing.unpriced }).setPort t.port ∧
        ((∀ l ∈ w.lines, l.index ≠ none) → t.pricing.unpriced = s.pricing.unpriced) ∧
        ((∃ l ∈ w.lines, l.index = none) → ∀ n ∈ jobSlots,
          n ∈ t.pricing.unpriced ↔ n = w.slot ∨ n ∈ s.pricing.unpriced) ∧
        (∀ index, t.useCount index = s.useCount index + if ∃ l ∈ w.lines, l.index = some index then 1 else 0) ∧
        Replied s t .done (be 1 w.slot ++ be 1 2 ++ be 1 w.lines.length ++
          be 1 (w.lines.filter fun l => l.index.isNone).length ++ be 6 (w.lines.map (·.amount)).sum)))

/-- Every charge of a job stands on one line, priced or unpriced, whatever the rate table: over all lines of a kind, the
footage is the hole depth (R168), the time is the sum of the counters in started tenths of an hour (R169), the mud is the
lost mud in litres rounded half up, and the strikes are those of the map (R170, R172). A charge goes to the valid entry
of its kind with the lowest index whose used filters, hardness, band and diameter of footage and the activity of time,
each are absent or hold its value, and with none to the unpriced line of its kind (R160). Each millimetre of the hole is
footage of one piece, whose key is the hardness and the diameter of its interval and its band, floor(depth ÷ band width)
up to 15 (R168); the tenths of an hour are a charge for each activity (R169). -/
def Obligations.EveryChargeStandsOnALine : Prop :=
  ∀ (rates : List (Option RateEntry)) (j : Job), j.mapOk →
    let total (k : ChargeKind) : Nat := (((priceLines rates j).filter fun l => l.kind == k).map (·.qty)).sum
    total .footage = j.holeDepth ∧ total .time = (j.seconds.toList.map fun x => (x + 359) / 360).sum ∧
      total .mud = ((j.map.map (·.lostMud)).sum + 500) / 1000 ∧
      total .strike = (j.map.filterMap (·.strike)).length ∧
      (let within (f : Option (Nat × Nat)) (v : Nat) : Prop := ∀ r ∈ f, r.1 ≤ v ∧ v ≤ r.2
      let fits (e : RateEntry) (c : Charge) : Prop := e.kind = c.kind ∧
        (c.kind = .footage → within e.hardness c.hardness ∧ within e.band c.band ∧ within e.diameter c.diameter) ∧
        (c.kind = .time → ∀ a ∈ e.activity, a = c.activity)
      (∀ c n, firstMatch rates c = some n ↔ n < 32 ∧ (∃ e, rates[n]? = some (some e) ∧ fits e c) ∧
        ∀ m e, m < n → rates[m]? = some (some e) → ¬fits e c) ∧
      (∀ c, firstMatch rates c = none ↔ ∀ m e, m < 32 → rates[m]? = some (some e) → ¬fits e c)) ∧
      (∀ index : Option Nat,
        let received (k : ChargeKind) : Nat :=
          (((priceLines rates j).filter fun l => l.kind == k && l.index == index).map (·.qty)).sum
        let share (c : Charge) : Nat := if firstMatch rates c = index then c.qty else 0
        (0 < j.bandWidth → received .footage = sumTo j.holeDepth fun d =>
          ((intervalOver j.map d).map fun i =>
            share ⟨.footage, i.hardness, min (d / j.bandWidth) 15, i.diameter, 0, 1⟩).getD 0) ∧
        received .time =
          (j.seconds.toList.zipIdx.map fun p => share ⟨.time, 0, 0, 0, p.2, (p.1 + 359) / 360⟩).sum ∧
        received .mud = share ⟨.mud, 0, 0, 0, 0, ((j.map.map (·.lostMud)).sum + 500) / 1000⟩ ∧
        received .strike = share ⟨.strike, 0, 0, 0, 0, (j.map.filterMap (·.strike)).length⟩)

/-- Every line has a quantity above 0. A line with an index is of a valid entry, carries its kind, label and rate, and
an amount of quantity × rate: for footage and mud the thousandth, for time the tenth, rounded half up (R172, R173); an
unpriced line has no label and a rate and an amount of 0. A FIXED entry makes one line of quantity 1 (R171). Indexed
lines come first, in rising order of index, and then at most one unpriced line for each kind (R172). -/
def Obligations.LinesAreAmounted : Prop :=
  ∀ (rates : List (Option RateEntry)) (j : Job),
    (∀ l ∈ priceLines rates j, 0 < l.qty ∧
      (l.index = none → l.label = none ∧ l.rate = 0 ∧ l.amount = 0 ∧ l.kind ≠ .fixed) ∧
      (∀ n, l.index = some n → ∃ e, n < 32 ∧ rates[n]? = some (some e) ∧ l.kind = e.kind ∧ l.label = e.label ∧
        l.rate = e.rate ∧
        (e.kind = .footage ∨ e.kind = .mud → l.amount = (l.qty * e.rate + 500) / 1000) ∧
        (e.kind = .time → l.amount = (l.qty * e.rate + 5) / 10) ∧
        (e.kind = .strike → l.amount = l.qty * e.rate) ∧
        (e.kind = .fixed → l.qty = 1 ∧ l.amount = e.rate))) ∧
    (∀ n e, n < 32 → rates[n]? = some (some e) → e.kind = .fixed →
      ⟨.fixed, some n, e.label, 1, e.rate, e.rate⟩ ∈ priceLines rates j) ∧
    (∃ indexed unpriced, priceLines rates j = indexed ++ unpriced ∧ (∀ l ∈ indexed, l.index ≠ none) ∧
      (∀ l ∈ unpriced, l.index = none) ∧ (indexed.filterMap (·.index)).Pairwise (· < ·) ∧
      (unpriced.map (·.kind.code)).Pairwise (· < ·))

/-- READ INVOICE LINE reports the head of a PRICED or SETTLED job's invoice and the line of a number, with the head
alone above the number of lines (MODEL'S CHOICE, log 28), and removes the slot from the unpriced set (R174, R175).
RELEASE PRICING returns a PRICED job to COMPLETE without lines or total (R176), SETTLE JOB makes it SETTLED (R177):
each under the keyswitch, sampled at the request, with the use counts of its entries lowered (R161) and the refusals in
their order. -/
def Obligations.InvoicesAreReadReleasedAndSettled : Prop :=
  (∀ (s : State) (slot start : Nat), 1 ≤ slot → slot ≤ 4 → 1 ≤ start → start ≤ 36 →
    s.accepts (.readInvoiceLine (be 1 slot ++ be 1 start)) = true →
    (s.job.jobs.get slot = none → Refused (.readInvoiceLine (be 1 slot ++ be 1 start)) s .notFound) ∧
    (∀ j, s.job.jobs.get slot = some j →
      (j.state = .active ∨ j.state = .complete →
        Refused (.readInvoiceLine (be 1 slot ++ be 1 start)) s .wrongState) ∧
      (j.state = .priced ∨ j.state = .settled →
        let head := be 1 slot ++ be 1 j.state.code ++ be 1 j.lines.length ++
          be 1 (j.lines.filter fun l => l.index.isNone).length ++ be 6 j.total
        let answer (body : List Byte) : Host.Outcome State Fault Refusal :=
          .next ((s.setPricing { s.pricing with unpriced := s.pricing.unpriced.filter fun m => m != slot }).setPort
            { s.port with held := ⟨.done, body⟩, engine := .idle })
        (∀ l, j.lines[start - 1]? = some l →
          exec (.readInvoiceLine (be 1 slot ++ be 1 start)) s = answer (head ++ (be 1 start ++ be 1 l.kind.code ++
            opt 1 l.index ++ optText 12 l.label ++ be 4 l.qty ++ be 4 l.rate ++ be 6 l.amount))) ∧
        (j.lines.length < start → exec (.readInvoiceLine (be 1 slot ++ be 1 start)) s = answer head)))) ∧
  (∀ (s : State) (key : Bool) (slot : Nat), 1 ≤ slot → slot ≤ 4 →
    let u := s.setPins { s.pins with rateKey := key }
    let release := Instr.releasePricing key (be 1 slot)
    let settle := Instr.settleJob key (be 1 slot)
    (∀ i, i = release ∨ i = settle → s.accepts i = true →
      (s.job.jobs.get slot = none → exec i s = .next (u.refused .notFound)) ∧
      (∀ j, s.job.jobs.get slot = some j → j.state ≠ .priced → exec i s = .next (u.refused .wrongState)) ∧
      (∀ j, s.job.jobs.get slot = some j → j.state = .priced → key = false → exec i s = .next (u.refused .locked))) ∧
    (∀ j, key = true → s.job.jobs.get slot = some j → j.state = .priced →
      (s.accepts release = true → ∃ t, exec release s = .next t ∧
        t.job.jobs.get slot = some { j with state := .complete, lines := [], total := 0 } ∧ OtherSlots slot s t ∧
        t = ((u.setJob { s.job with jobs := t.job.jobs }).setPricing { s.pricing with
          unpriced := s.pricing.unpriced.filter fun m => m != slot }).setPort t.port ∧
        (∀ n, t.useCount n + (if ∃ l ∈ j.lines, l.index = some n then 1 else 0) = s.useCount n) ∧
        Replied s t .done (be 1 slot ++ be 1 1 ++ be 1 j.lines.length)) ∧
      (s.accepts settle = true → ∃ t, exec settle s = .next t ∧
        t.job.jobs.get slot = some { j with state := .settled } ∧ OtherSlots slot s t ∧
        t = (u.setJob { s.job with jobs := t.job.jobs }).setPort t.port ∧
        (∀ n, t.useCount n + (if ∃ l ∈ j.lines, l.index = some n then 1 else 0) = s.useCount n) ∧
        Replied s t .done (be 1 slot ++ be 1 3 ++ be 1 j.lines.length ++ be 6 j.total))))

/-! ## Power, wells and the start -/

/-- START: cold with the retention-lost latch set, every record as after a first power-on and the configuration at its
defaults (R24, R88, R106, R125, R142, R157, R178, R192, R196, R199); warm otherwise, the backed well kept: records,
string, jobs, rates, configuration, sweep counter and flags and the reference values, which are INVALID (R23, R47,
R106, R125, R142), reservations released and a rod IN_TRANSFER UNCERTAIN (R23), and a head note become an outcome
ABORTED with RESET (R87). Either begins with no permit, the determination running, every quantity stale and no reply
yet (R61, R87, R193). The activity is IDLE after a cold start, whatever ALLSTOP_N, and after a warm start DOWN with
ALLSTOP_N low (R157; for the cold start the model's reading, log 38). The inputs are sampled (MODEL'S CHOICE, log 18).
A part that runs makes no start (MODEL'S CHOICE, log 17). -/
def Obligations.StartsAreWarmOrCold : Prop :=
  ∀ (s : State) (l : StartLevels),
    (s.running = true → exec (.start l) s = .next s) ∧
    (s.running = false → ∃ t, exec (.start l) s = .next t ∧ t.running = true ∧ t.power.retentionLost = false ∧
      t.handler.noPermit ∧ t.pumpPermit = false ∧ t.handler.queue = [] ∧ t.handler.nextNum = 1 ∧
      t.handler.determinationMs = some 0 ∧ t.handler.holdFault = false ∧ t.handler.handlerFault = false ∧
      t.hub.linkUp = false ∧ t.hub.strokesA.stale = true ∧ t.hub.strokesB.stale = true ∧ t.hub.pitLevel.stale = true ∧
      t.hub.hookLoad.stale = true ∧ t.hub.stickUp.stale = true ∧ t.hub.rotary.stale = true ∧
      t.hub.density.stale = true ∧ t.hub.pumpA.state = .unknown ∧ t.hub.pumpB.state = .unknown ∧
      t.circ.ref.valid = false ∧ t.circ.survey = none ∧ t.circ.lastBalance = none ∧ t.sweep.current = none ∧
      t.sweep.last = none ∧ t.bore = ⟨false, false⟩ ∧ t.rod.slotRes = [] ∧ t.rod.lastWorn = none ∧
      t.rod.rodWorn = false ∧ t.job.idleMs = 0 ∧
      t.pricing.unpriced = [] ∧ t.pricing.working = none ∧ t.port.engine = .idle ∧ t.port.held = ⟨.noneYet, []⟩ ∧
      t.port.exchange = (if l.pselLow = true then .ignored else .none) ∧
      t.pins = ⟨l.slipsClosed, l.elevClosed, l.wrenchDone, l.racked, l.allstopN, l.rateKey, l.vbakLow⟩ ∧
      (s.power.retentionLost = true →
        t.power.startMark = .cold ∧ t.job.activity = .idle ∧ t.rod.rods = [] ∧ t.rod.members = [] ∧ t.rod.rawDepth = 0 ∧ t.rod.repDepth = 0 ∧
        (∀ n ∈ jobSlots, t.job.jobs.get n = none) ∧ t.poolFree = 128 ∧ (∀ n < 32, t.pricing.entry n = none) ∧
        (∀ n < 256, ∀ i ∈ t.config.item n, i.value = i.default) ∧ t.handler.carrier = none ∧
        t.handler.headNote = none ∧ t.handler.lastOutcome = none ∧ t.handler.handlerDone = false ∧
        t.sweep.counter = 0 ∧ t.sweep.owed = false ∧ t.sweep.overdue = false ∧ t.circ.ref = ⟨false, 0, 0, 0⟩) ∧
      (s.power.retentionLost = false →
        t.power.startMark = .warm ∧ t.job.activity = (if l.allstopN = true then .idle else .down) ∧
        (∀ tag, t.rod.find tag = (s.rod.find tag).map fun r => { r with
          reservation := none, location := if r.location = .inTransfer then .uncertain else r.location }) ∧
        t.rod.rods.length = s.rod.rods.length ∧ t.rod.members = s.rod.members ∧
        (s.rod.members = [] → t.rod.rawDepth = 0 ∧ t.rod.repDepth = 0) ∧
        (s.rod.members ≠ [] → t.rod.rawDepth = min s.rod.stringLength s.holeDepth ∧ t.rod.repDepth = t.rod.rawDepth) ∧
        t.job.jobs = s.job.jobs ∧ t.pricing.rates = s.pricing.rates ∧ t.config = s.config ∧
        t.handler.carrier = s.handler.carrier ∧ t.handler.headNote = none ∧
        t.handler.lastOutcome = s.handler.headNote.map (fun n => ⟨n.num, n.kind, some .reset, n.tag⟩) ∧
        t.handler.handlerDone = s.handler.headNote.isSome ∧ t.sweep.counter = s.sweep.counter ∧
        t.sweep.owed = s.sweep.owed ∧ t.sweep.overdue = s.sweep.overdue ∧
        t.circ.ref = { s.circ.ref with valid := false }))

/-- MAIN_POWER_LOSS keeps the backed well, withdraws every permit and output, and sets the retention-lost latch where
VBAK is already low (R194, R195, R196). MAIN_POWER_RETURN_IN_RESET holds the part in reset with PDO high (R195)
and changes nothing else, the level of VBAK among it (MODEL'S CHOICE, log 45).
RETENTION_LOST_SET sets the latch only while main power is absent (R196); BACKUP_LOW_CHANGE makes BACKUP_LOW pending or
not only while it is present (R197). RESET_LINE_FALL begins the measurement of the low time; RESET_ENTRY withdraws the
permits and loses the engine's work, the held reply, the survey, the pricing and the exchange, and keeps every record
(R198); every byte read then is 0xFF (R186, R193). -/
def Obligations.PowerAndResetLine : Prop :=
  (∀ s : State, s.power.phase = .off → exec .mainPowerLoss s = .next s) ∧
  (∀ s : State, s.power.phase ≠ .off → ∃ t, exec .mainPowerLoss s = .next t ∧ t.power.phase = .off ∧
    (t.power.retentionLost = true ↔ s.power.retentionLost = true ∨ s.pins.vbakLow = true) ∧
    t.rod.rods = s.rod.rods ∧ t.rod.slotRes = s.rod.slotRes ∧ t.rod.members = s.rod.members ∧
    t.job.jobs = s.job.jobs ∧ t.config = s.config ∧ t.pricing.rates = s.pricing.rates ∧
    t.sweep.counter = s.sweep.counter ∧ t.sweep.owed = s.sweep.owed ∧ t.sweep.overdue = s.sweep.overdue ∧
    t.circ.ref = s.circ.ref ∧ t.handler.carrier = s.handler.carrier ∧ t.handler.headNote = s.handler.headNote ∧
    t.pins = s.pins ∧ t.handler.noPermit ∧ t.pumpPermit = false ∧ t.attnN = true ∧ t.pdo = .undriven) ∧
  (∀ s : State, s.power.phase ≠ .off → exec .mainPowerReturnInReset s = .next s) ∧
  (∀ s : State, s.power.phase = .off → ∃ t, exec .mainPowerReturnInReset s = .next t ∧
    t = s.setPower { s.power with phase := .inReset } ∧ t.pdo = .high) ∧
  (∀ s : State, s.power.phase ≠ .off → exec .retentionLostSet s = .next s) ∧
  (∀ s : State, s.power.phase = .off → exec .retentionLostSet s =
    .next ((s.setPower { s.power with retentionLost := true }).setPins { s.pins with vbakLow := true })) ∧
  (∀ (s : State) (low : Bool), s.power.phase = .off → exec (.backupLowChange low) s = .next s) ∧
  (∀ (s : State) (low : Bool), s.power.phase ≠ .off → ∃ t, exec (.backupLowChange low) s = .next t ∧
    t = s.setPins { s.pins with vbakLow := low } ∧ t.isPending .backupLow = low) ∧
  (∀ s : State, s.running = true →
    (∀ ms, s.power.rstLowMs = some ms → exec .resetLineFall s = .next s) ∧
    (s.power.rstLowMs = none →
      exec .resetLineFall s = .next (s.setPower { s.power with rstLowMs := some 0 }))) ∧
  (∀ s : State, s.running = true → ∃ t, exec .resetEntry s = .next t ∧ t.power.phase = .inReset ∧
    t.power.retentionLost = s.power.retentionLost ∧ t.handler.noPermit ∧ t.pumpPermit = false ∧ t.attnN = true ∧
    t.pdo = .high ∧ (∀ n, t.pdo.byte n = some 0xFF) ∧ t.port.engine = .idle ∧ t.port.held = ⟨.noneYet, []⟩ ∧
    t.port.exchange = .none ∧
    t.circ = { s.circ with survey := none } ∧ t.pricing = { s.pricing with working := none } ∧ t.rod = s.rod ∧
    t.bore = s.bore ∧ t.sweep = s.sweep ∧ t.job = s.job ∧ t.config = s.config ∧ t.pins = s.pins ∧
    t.handler.carrier = s.handler.carrier ∧ t.handler.headNote = s.handler.headNote ∧ t.handler.queue = s.handler.queue)
end

