-- ==== Sys2Proof/Laws/State.lean ====
section
/-! SUPPORT. The laws of the record updates of State: one lemma for each field and each setter, true by rfl, so that no
proof unfolds an update. -/
namespace Sys2Proof.Machine

section rodUpdates
variable (s : State) (x : RodUnit)
@[simp] theorem State.setRod_rod : (s.setRod x).rod = x := rfl
@[simp] theorem State.setRod_bore : (s.setRod x).bore = s.bore := rfl
@[simp] theorem State.setRod_hub : (s.setRod x).hub = s.hub := rfl
@[simp] theorem State.setRod_handler : (s.setRod x).handler = s.handler := rfl
@[simp] theorem State.setRod_circ : (s.setRod x).circ = s.circ := rfl
@[simp] theorem State.setRod_sweep : (s.setRod x).sweep = s.sweep := rfl
@[simp] theorem State.setRod_job : (s.setRod x).job = s.job := rfl
@[simp] theorem State.setRod_pricing : (s.setRod x).pricing = s.pricing := rfl
@[simp] theorem State.setRod_port : (s.setRod x).port = s.port := rfl
@[simp] theorem State.setRod_config : (s.setRod x).config = s.config := rfl
@[simp] theorem State.setRod_power : (s.setRod x).power = s.power := rfl
@[simp] theorem State.setRod_pins : (s.setRod x).pins = s.pins := rfl
@[simp] theorem State.setRod_pending : (s.setRod x).pending = s.pending := rfl
@[simp] theorem State.setRod_freeCount : (s.setRod x).freeCount = s.freeCount := rfl
@[simp] theorem State.setRod_self : s.setRod s.rod = s := rfl
@[simp] theorem State.setRod_setRod (y : RodUnit) : (s.setRod x).setRod y = s.setRod y := rfl
end rodUpdates

section boreUpdates
variable (s : State) (x : BoreUnit)
@[simp] theorem State.setBore_rod : (s.setBore x).rod = s.rod := rfl
@[simp] theorem State.setBore_bore : (s.setBore x).bore = x := rfl
@[simp] theorem State.setBore_hub : (s.setBore x).hub = s.hub := rfl
@[simp] theorem State.setBore_handler : (s.setBore x).handler = s.handler := rfl
@[simp] theorem State.setBore_circ : (s.setBore x).circ = s.circ := rfl
@[simp] theorem State.setBore_sweep : (s.setBore x).sweep = s.sweep := rfl
@[simp] theorem State.setBore_job : (s.setBore x).job = s.job := rfl
@[simp] theorem State.setBore_pricing : (s.setBore x).pricing = s.pricing := rfl
@[simp] theorem State.setBore_port : (s.setBore x).port = s.port := rfl
@[simp] theorem State.setBore_config : (s.setBore x).config = s.config := rfl
@[simp] theorem State.setBore_power : (s.setBore x).power = s.power := rfl
@[simp] theorem State.setBore_pins : (s.setBore x).pins = s.pins := rfl
@[simp] theorem State.setBore_pending : (s.setBore x).pending = s.pending := rfl
@[simp] theorem State.setBore_freeCount : (s.setBore x).freeCount = s.freeCount := rfl
@[simp] theorem State.setBore_self : s.setBore s.bore = s := rfl
@[simp] theorem State.setBore_setBore (y : BoreUnit) : (s.setBore x).setBore y = s.setBore y := rfl
end boreUpdates

section hubUpdates
variable (s : State) (x : HubUnit)
@[simp] theorem State.setHub_rod : (s.setHub x).rod = s.rod := rfl
@[simp] theorem State.setHub_bore : (s.setHub x).bore = s.bore := rfl
@[simp] theorem State.setHub_hub : (s.setHub x).hub = x := rfl
@[simp] theorem State.setHub_handler : (s.setHub x).handler = s.handler := rfl
@[simp] theorem State.setHub_circ : (s.setHub x).circ = s.circ := rfl
@[simp] theorem State.setHub_sweep : (s.setHub x).sweep = s.sweep := rfl
@[simp] theorem State.setHub_job : (s.setHub x).job = s.job := rfl
@[simp] theorem State.setHub_pricing : (s.setHub x).pricing = s.pricing := rfl
@[simp] theorem State.setHub_port : (s.setHub x).port = s.port := rfl
@[simp] theorem State.setHub_config : (s.setHub x).config = s.config := rfl
@[simp] theorem State.setHub_power : (s.setHub x).power = s.power := rfl
@[simp] theorem State.setHub_pins : (s.setHub x).pins = s.pins := rfl
@[simp] theorem State.setHub_pending : (s.setHub x).pending = s.pending := rfl
@[simp] theorem State.setHub_freeCount : (s.setHub x).freeCount = s.freeCount := rfl
@[simp] theorem State.setHub_self : s.setHub s.hub = s := rfl
@[simp] theorem State.setHub_setHub (y : HubUnit) : (s.setHub x).setHub y = s.setHub y := rfl
end hubUpdates

section handlerUpdates
variable (s : State) (x : HandlerUnit)
@[simp] theorem State.setHandler_rod : (s.setHandler x).rod = s.rod := rfl
@[simp] theorem State.setHandler_bore : (s.setHandler x).bore = s.bore := rfl
@[simp] theorem State.setHandler_hub : (s.setHandler x).hub = s.hub := rfl
@[simp] theorem State.setHandler_handler : (s.setHandler x).handler = x := rfl
@[simp] theorem State.setHandler_circ : (s.setHandler x).circ = s.circ := rfl
@[simp] theorem State.setHandler_sweep : (s.setHandler x).sweep = s.sweep := rfl
@[simp] theorem State.setHandler_job : (s.setHandler x).job = s.job := rfl
@[simp] theorem State.setHandler_pricing : (s.setHandler x).pricing = s.pricing := rfl
@[simp] theorem State.setHandler_port : (s.setHandler x).port = s.port := rfl
@[simp] theorem State.setHandler_config : (s.setHandler x).config = s.config := rfl
@[simp] theorem State.setHandler_power : (s.setHandler x).power = s.power := rfl
@[simp] theorem State.setHandler_pins : (s.setHandler x).pins = s.pins := rfl
@[simp] theorem State.setHandler_pending : (s.setHandler x).pending = s.pending := rfl
@[simp] theorem State.setHandler_freeCount : (s.setHandler x).freeCount = s.freeCount := rfl
@[simp] theorem State.setHandler_self : s.setHandler s.handler = s := rfl
@[simp] theorem State.setHandler_setHandler (y : HandlerUnit) : (s.setHandler x).setHandler y = s.setHandler y := rfl
end handlerUpdates

section circUpdates
variable (s : State) (x : CircUnit)
@[simp] theorem State.setCirc_rod : (s.setCirc x).rod = s.rod := rfl
@[simp] theorem State.setCirc_bore : (s.setCirc x).bore = s.bore := rfl
@[simp] theorem State.setCirc_hub : (s.setCirc x).hub = s.hub := rfl
@[simp] theorem State.setCirc_handler : (s.setCirc x).handler = s.handler := rfl
@[simp] theorem State.setCirc_circ : (s.setCirc x).circ = x := rfl
@[simp] theorem State.setCirc_sweep : (s.setCirc x).sweep = s.sweep := rfl
@[simp] theorem State.setCirc_job : (s.setCirc x).job = s.job := rfl
@[simp] theorem State.setCirc_pricing : (s.setCirc x).pricing = s.pricing := rfl
@[simp] theorem State.setCirc_port : (s.setCirc x).port = s.port := rfl
@[simp] theorem State.setCirc_config : (s.setCirc x).config = s.config := rfl
@[simp] theorem State.setCirc_power : (s.setCirc x).power = s.power := rfl
@[simp] theorem State.setCirc_pins : (s.setCirc x).pins = s.pins := rfl
@[simp] theorem State.setCirc_pending : (s.setCirc x).pending = s.pending := rfl
@[simp] theorem State.setCirc_freeCount : (s.setCirc x).freeCount = s.freeCount := rfl
@[simp] theorem State.setCirc_self : s.setCirc s.circ = s := rfl
@[simp] theorem State.setCirc_setCirc (y : CircUnit) : (s.setCirc x).setCirc y = s.setCirc y := rfl
end circUpdates

section sweepUpdates
variable (s : State) (x : SweepUnit)
@[simp] theorem State.setSweep_rod : (s.setSweep x).rod = s.rod := rfl
@[simp] theorem State.setSweep_bore : (s.setSweep x).bore = s.bore := rfl
@[simp] theorem State.setSweep_hub : (s.setSweep x).hub = s.hub := rfl
@[simp] theorem State.setSweep_handler : (s.setSweep x).handler = s.handler := rfl
@[simp] theorem State.setSweep_circ : (s.setSweep x).circ = s.circ := rfl
@[simp] theorem State.setSweep_sweep : (s.setSweep x).sweep = x := rfl
@[simp] theorem State.setSweep_job : (s.setSweep x).job = s.job := rfl
@[simp] theorem State.setSweep_pricing : (s.setSweep x).pricing = s.pricing := rfl
@[simp] theorem State.setSweep_port : (s.setSweep x).port = s.port := rfl
@[simp] theorem State.setSweep_config : (s.setSweep x).config = s.config := rfl
@[simp] theorem State.setSweep_power : (s.setSweep x).power = s.power := rfl
@[simp] theorem State.setSweep_pins : (s.setSweep x).pins = s.pins := rfl
@[simp] theorem State.setSweep_pending : (s.setSweep x).pending = s.pending := rfl
@[simp] theorem State.setSweep_freeCount : (s.setSweep x).freeCount = s.freeCount := rfl
@[simp] theorem State.setSweep_self : s.setSweep s.sweep = s := rfl
@[simp] theorem State.setSweep_setSweep (y : SweepUnit) : (s.setSweep x).setSweep y = s.setSweep y := rfl
end sweepUpdates

section jobUpdates
variable (s : State) (x : JobUnit)
@[simp] theorem State.setJob_rod : (s.setJob x).rod = s.rod := rfl
@[simp] theorem State.setJob_bore : (s.setJob x).bore = s.bore := rfl
@[simp] theorem State.setJob_hub : (s.setJob x).hub = s.hub := rfl
@[simp] theorem State.setJob_handler : (s.setJob x).handler = s.handler := rfl
@[simp] theorem State.setJob_circ : (s.setJob x).circ = s.circ := rfl
@[simp] theorem State.setJob_sweep : (s.setJob x).sweep = s.sweep := rfl
@[simp] theorem State.setJob_job : (s.setJob x).job = x := rfl
@[simp] theorem State.setJob_pricing : (s.setJob x).pricing = s.pricing := rfl
@[simp] theorem State.setJob_port : (s.setJob x).port = s.port := rfl
@[simp] theorem State.setJob_config : (s.setJob x).config = s.config := rfl
@[simp] theorem State.setJob_power : (s.setJob x).power = s.power := rfl
@[simp] theorem State.setJob_pins : (s.setJob x).pins = s.pins := rfl
@[simp] theorem State.setJob_pending : (s.setJob x).pending = s.pending := rfl
@[simp] theorem State.setJob_freeCount : (s.setJob x).freeCount = s.freeCount := rfl
@[simp] theorem State.setJob_self : s.setJob s.job = s := rfl
@[simp] theorem State.setJob_setJob (y : JobUnit) : (s.setJob x).setJob y = s.setJob y := rfl
end jobUpdates

section pricingUpdates
variable (s : State) (x : PricingUnit)
@[simp] theorem State.setPricing_rod : (s.setPricing x).rod = s.rod := rfl
@[simp] theorem State.setPricing_bore : (s.setPricing x).bore = s.bore := rfl
@[simp] theorem State.setPricing_hub : (s.setPricing x).hub = s.hub := rfl
@[simp] theorem State.setPricing_handler : (s.setPricing x).handler = s.handler := rfl
@[simp] theorem State.setPricing_circ : (s.setPricing x).circ = s.circ := rfl
@[simp] theorem State.setPricing_sweep : (s.setPricing x).sweep = s.sweep := rfl
@[simp] theorem State.setPricing_job : (s.setPricing x).job = s.job := rfl
@[simp] theorem State.setPricing_pricing : (s.setPricing x).pricing = x := rfl
@[simp] theorem State.setPricing_port : (s.setPricing x).port = s.port := rfl
@[simp] theorem State.setPricing_config : (s.setPricing x).config = s.config := rfl
@[simp] theorem State.setPricing_power : (s.setPricing x).power = s.power := rfl
@[simp] theorem State.setPricing_pins : (s.setPricing x).pins = s.pins := rfl
@[simp] theorem State.setPricing_pending : (s.setPricing x).pending = s.pending := rfl
@[simp] theorem State.setPricing_freeCount : (s.setPricing x).freeCount = s.freeCount := rfl
@[simp] theorem State.setPricing_self : s.setPricing s.pricing = s := rfl
@[simp] theorem State.setPricing_setPricing (y : PricingUnit) : (s.setPricing x).setPricing y = s.setPricing y := rfl
end pricingUpdates

section portUpdates
variable (s : State) (x : PortUnit)
@[simp] theorem State.setPort_rod : (s.setPort x).rod = s.rod := rfl
@[simp] theorem State.setPort_bore : (s.setPort x).bore = s.bore := rfl
@[simp] theorem State.setPort_hub : (s.setPort x).hub = s.hub := rfl
@[simp] theorem State.setPort_handler : (s.setPort x).handler = s.handler := rfl
@[simp] theorem State.setPort_circ : (s.setPort x).circ = s.circ := rfl
@[simp] theorem State.setPort_sweep : (s.setPort x).sweep = s.sweep := rfl
@[simp] theorem State.setPort_job : (s.setPort x).job = s.job := rfl
@[simp] theorem State.setPort_pricing : (s.setPort x).pricing = s.pricing := rfl
@[simp] theorem State.setPort_port : (s.setPort x).port = x := rfl
@[simp] theorem State.setPort_config : (s.setPort x).config = s.config := rfl
@[simp] theorem State.setPort_power : (s.setPort x).power = s.power := rfl
@[simp] theorem State.setPort_pins : (s.setPort x).pins = s.pins := rfl
@[simp] theorem State.setPort_pending : (s.setPort x).pending = s.pending := rfl
@[simp] theorem State.setPort_freeCount : (s.setPort x).freeCount = s.freeCount := rfl
@[simp] theorem State.setPort_self : s.setPort s.port = s := rfl
@[simp] theorem State.setPort_setPort (y : PortUnit) : (s.setPort x).setPort y = s.setPort y := rfl
end portUpdates

section configUpdates
variable (s : State) (x : ConfigStore)
@[simp] theorem State.setConfig_rod : (s.setConfig x).rod = s.rod := rfl
@[simp] theorem State.setConfig_bore : (s.setConfig x).bore = s.bore := rfl
@[simp] theorem State.setConfig_hub : (s.setConfig x).hub = s.hub := rfl
@[simp] theorem State.setConfig_handler : (s.setConfig x).handler = s.handler := rfl
@[simp] theorem State.setConfig_circ : (s.setConfig x).circ = s.circ := rfl
@[simp] theorem State.setConfig_sweep : (s.setConfig x).sweep = s.sweep := rfl
@[simp] theorem State.setConfig_job : (s.setConfig x).job = s.job := rfl
@[simp] theorem State.setConfig_pricing : (s.setConfig x).pricing = s.pricing := rfl
@[simp] theorem State.setConfig_port : (s.setConfig x).port = s.port := rfl
@[simp] theorem State.setConfig_config : (s.setConfig x).config = x := rfl
@[simp] theorem State.setConfig_power : (s.setConfig x).power = s.power := rfl
@[simp] theorem State.setConfig_pins : (s.setConfig x).pins = s.pins := rfl
@[simp] theorem State.setConfig_pending : (s.setConfig x).pending = s.pending := rfl
@[simp] theorem State.setConfig_freeCount : (s.setConfig x).freeCount = s.freeCount := rfl
@[simp] theorem State.setConfig_self : s.setConfig s.config = s := rfl
@[simp] theorem State.setConfig_setConfig (y : ConfigStore) : (s.setConfig x).setConfig y = s.setConfig y := rfl
end configUpdates

section powerUpdates
variable (s : State) (x : PowerUnit)
@[simp] theorem State.setPower_rod : (s.setPower x).rod = s.rod := rfl
@[simp] theorem State.setPower_bore : (s.setPower x).bore = s.bore := rfl
@[simp] theorem State.setPower_hub : (s.setPower x).hub = s.hub := rfl
@[simp] theorem State.setPower_handler : (s.setPower x).handler = s.handler := rfl
@[simp] theorem State.setPower_circ : (s.setPower x).circ = s.circ := rfl
@[simp] theorem State.setPower_sweep : (s.setPower x).sweep = s.sweep := rfl
@[simp] theorem State.setPower_job : (s.setPower x).job = s.job := rfl
@[simp] theorem State.setPower_pricing : (s.setPower x).pricing = s.pricing := rfl
@[simp] theorem State.setPower_port : (s.setPower x).port = s.port := rfl
@[simp] theorem State.setPower_config : (s.setPower x).config = s.config := rfl
@[simp] theorem State.setPower_power : (s.setPower x).power = x := rfl
@[simp] theorem State.setPower_pins : (s.setPower x).pins = s.pins := rfl
@[simp] theorem State.setPower_pending : (s.setPower x).pending = s.pending := rfl
@[simp] theorem State.setPower_freeCount : (s.setPower x).freeCount = s.freeCount := rfl
@[simp] theorem State.setPower_self : s.setPower s.power = s := rfl
@[simp] theorem State.setPower_setPower (y : PowerUnit) : (s.setPower x).setPower y = s.setPower y := rfl
end powerUpdates

section pinsUpdates
variable (s : State) (x : Pins)
@[simp] theorem State.setPins_rod : (s.setPins x).rod = s.rod := rfl
@[simp] theorem State.setPins_bore : (s.setPins x).bore = s.bore := rfl
@[simp] theorem State.setPins_hub : (s.setPins x).hub = s.hub := rfl
@[simp] theorem State.setPins_handler : (s.setPins x).handler = s.handler := rfl
@[simp] theorem State.setPins_circ : (s.setPins x).circ = s.circ := rfl
@[simp] theorem State.setPins_sweep : (s.setPins x).sweep = s.sweep := rfl
@[simp] theorem State.setPins_job : (s.setPins x).job = s.job := rfl
@[simp] theorem State.setPins_pricing : (s.setPins x).pricing = s.pricing := rfl
@[simp] theorem State.setPins_port : (s.setPins x).port = s.port := rfl
@[simp] theorem State.setPins_config : (s.setPins x).config = s.config := rfl
@[simp] theorem State.setPins_power : (s.setPins x).power = s.power := rfl
@[simp] theorem State.setPins_pins : (s.setPins x).pins = x := rfl
@[simp] theorem State.setPins_pending : (s.setPins x).pending = s.pending := rfl
@[simp] theorem State.setPins_freeCount : (s.setPins x).freeCount = s.freeCount := rfl
@[simp] theorem State.setPins_self : s.setPins s.pins = s := rfl
@[simp] theorem State.setPins_setPins (y : Pins) : (s.setPins x).setPins y = s.setPins y := rfl
end pinsUpdates

section pendingUpdates
variable (s : State) (x : List Instr)
@[simp] theorem State.setPending_rod : (s.setPending x).rod = s.rod := rfl
@[simp] theorem State.setPending_bore : (s.setPending x).bore = s.bore := rfl
@[simp] theorem State.setPending_hub : (s.setPending x).hub = s.hub := rfl
@[simp] theorem State.setPending_handler : (s.setPending x).handler = s.handler := rfl
@[simp] theorem State.setPending_circ : (s.setPending x).circ = s.circ := rfl
@[simp] theorem State.setPending_sweep : (s.setPending x).sweep = s.sweep := rfl
@[simp] theorem State.setPending_job : (s.setPending x).job = s.job := rfl
@[simp] theorem State.setPending_pricing : (s.setPending x).pricing = s.pricing := rfl
@[simp] theorem State.setPending_port : (s.setPending x).port = s.port := rfl
@[simp] theorem State.setPending_config : (s.setPending x).config = s.config := rfl
@[simp] theorem State.setPending_power : (s.setPending x).power = s.power := rfl
@[simp] theorem State.setPending_pins : (s.setPending x).pins = s.pins := rfl
@[simp] theorem State.setPending_pending : (s.setPending x).pending = x := rfl
@[simp] theorem State.setPending_freeCount : (s.setPending x).freeCount = s.freeCount := rfl
@[simp] theorem State.setPending_self : s.setPending s.pending = s := rfl
@[simp] theorem State.setPending_setPending (y : List Instr) : (s.setPending x).setPending y = s.setPending y := rfl
end pendingUpdates

section freeCountUpdates
variable (s : State) (x : Nat)
@[simp] theorem State.setFreeCount_rod : (s.setFreeCount x).rod = s.rod := rfl
@[simp] theorem State.setFreeCount_bore : (s.setFreeCount x).bore = s.bore := rfl
@[simp] theorem State.setFreeCount_hub : (s.setFreeCount x).hub = s.hub := rfl
@[simp] theorem State.setFreeCount_handler : (s.setFreeCount x).handler = s.handler := rfl
@[simp] theorem State.setFreeCount_circ : (s.setFreeCount x).circ = s.circ := rfl
@[simp] theorem State.setFreeCount_sweep : (s.setFreeCount x).sweep = s.sweep := rfl
@[simp] theorem State.setFreeCount_job : (s.setFreeCount x).job = s.job := rfl
@[simp] theorem State.setFreeCount_pricing : (s.setFreeCount x).pricing = s.pricing := rfl
@[simp] theorem State.setFreeCount_port : (s.setFreeCount x).port = s.port := rfl
@[simp] theorem State.setFreeCount_config : (s.setFreeCount x).config = s.config := rfl
@[simp] theorem State.setFreeCount_power : (s.setFreeCount x).power = s.power := rfl
@[simp] theorem State.setFreeCount_pins : (s.setFreeCount x).pins = s.pins := rfl
@[simp] theorem State.setFreeCount_pending : (s.setFreeCount x).pending = s.pending := rfl
@[simp] theorem State.setFreeCount_freeCount : (s.setFreeCount x).freeCount = x := rfl
@[simp] theorem State.setFreeCount_self : s.setFreeCount s.freeCount = s := rfl
@[simp] theorem State.setFreeCount_setFreeCount (y : Nat) : (s.setFreeCount x).setFreeCount y = s.setFreeCount y := rfl
end freeCountUpdates

end Sys2Proof.Machine
end

