-- ==== Sys2Proof/Laws/Frame.lean ====
section
/-! SUPPORT. What the shared operations of the blocks can do. One lemma for each operation says that it keeps every
property that its kinds of update keep (`Closed`); from it follow the frames: what the operations leave alone. -/
namespace Sys2Proof.Machine

/-! ## Free orders -/

theorem inOrder_induct {P : State → Prop} {fs : List (State → State)} (h : ∀ f ∈ fs, ∀ t, P t → P (f t)) {s : State}
    (hs : P s) : P (inOrder fs s) := by
  induction fs generalizing s with
  | nil => exact hs
  | cons f fs ih =>
    exact ih (fun g hg => h g (List.mem_cons_of_mem _ hg)) (h f List.mem_cons_self s hs)

theorem mem_insertions {α : Type} {x y : α} {l o : List α} (ho : o ∈ insertions x l) (hy : y ∈ o) : y = x ∨ y ∈ l := by
  induction l generalizing o with
  | nil =>
    simp [insertions] at ho; subst ho; simp at hy; exact .inl hy
  | cons a l ih =>
    simp only [insertions, List.mem_cons, List.mem_map] at ho
    rcases ho with rfl | ⟨o', ho', rfl⟩
    · simpa using hy
    · rcases List.mem_cons.1 hy with rfl | hy
      · exact .inr List.mem_cons_self
      · rcases ih ho' hy with h | h
        · exact .inl h
        · exact .inr (List.mem_cons_of_mem _ h)

theorem mem_of_mem_orders {α : Type} {y : α} {l o : List α} (ho : o ∈ orders l) (hy : y ∈ o) : y ∈ l := by
  induction l generalizing o with
  | nil => simp [orders] at ho; subst ho; simp at hy
  | cons a l ih =>
    simp only [orders, List.mem_flatMap] at ho
    obtain ⟨o', ho', hoi⟩ := ho
    rcases mem_insertions hoi hy with rfl | h
    · exact List.mem_cons_self
    · exact List.mem_cons_of_mem _ (ih ho' h)

theorem insertions_ne_nil {α : Type} (x : α) (l : List α) : insertions x l ≠ [] := by
  cases l <;> simp [insertions]

theorem orders_ne_nil {α : Type} (l : List α) : orders l ≠ [] := by
  induction l with
  | nil => simp [orders]
  | cons a l ih =>
    obtain ⟨o, os, h⟩ := List.exists_cons_of_ne_nil ih
    obtain ⟨p, ps, k⟩ := List.exists_cons_of_ne_nil (insertions_ne_nil a o)
    simp [orders, h, k]

/-- What parts taken in a free order can do: the state of one order, perhaps with the free counter moved on. -/
theorem anyOrder_cases (fs : List (State → State)) (s : State) :
    ∃ o ∈ orders fs, anyOrder fs s = inOrder o s ∨
      anyOrder fs s = (inOrder o s).setFreeCount ((inOrder o s).freeCount + 1) := by
  unfold anyOrder
  split
  · next h => exact absurd (List.map_eq_nil_iff.1 h) (orders_ne_nil fs)
  · next r rs h =>
    have hmem : ∀ t ∈ r :: rs, ∃ o ∈ orders fs, inOrder o s = t := by
      intro t ht
      rw [← h] at ht
      simpa using ht
    split
    · obtain ⟨o, ho, hr⟩ := hmem r List.mem_cons_self
      exact ⟨o, ho, .inl hr.symm⟩
    · have hg : (r :: rs).getD (Config.freePick s.freeCount % (rs.length + 1)) r ∈ r :: rs := by
        rw [List.getD_eq_getElem?_getD]
        cases hx : (r :: rs)[Config.freePick s.freeCount % (rs.length + 1)]? with
        | none => simp
        | some x => exact List.mem_of_getElem? (by simpa using hx)
      obtain ⟨o, ho, hr⟩ := hmem _ hg
      exact ⟨o, ho, .inr (by simp only [hr])⟩

/-- A property that every part keeps, and that the free counter does not enter, is kept in a free order. -/
theorem anyOrder_induct {P : State → Prop} {fs : List (State → State)} (hfree : ∀ t n, P t → P (t.setFreeCount n))
    (h : ∀ f ∈ fs, ∀ t, P t → P (f t)) {s : State} (hs : P s) : P (anyOrder fs s) := by
  obtain ⟨o, ho, heq | heq⟩ := anyOrder_cases fs s
  · rw [heq]
    exact inOrder_induct (fun f hf => h f (mem_of_mem_orders ho hf)) hs
  · rw [heq]
    exact hfree _ _ (inOrder_induct (fun f hf => h f (mem_of_mem_orders ho hf)) hs)

/-! ## Properties that the blocks' updates keep -/

/-- A property of states that every kind of update of the blocks' own operations keeps: the rod records may change but
not their tags, nor the members of the string; the job records change by a booking or by the bore map's evaluation
alone. -/
structure Closed (P : State → Prop) : Prop where
  rod     : ∀ s x, x.rods.map (·.tag) = s.rod.rods.map (·.tag) → x.members = s.rod.members → P s → P (s.setRod x)
  bore    : ∀ s x, P s → P (s.setBore x)
  handler : ∀ s x, P s → P (s.setHandler x)
  circ    : ∀ s x, P s → P (s.setCirc x)
  sweep   : ∀ s x, P s → P (s.setSweep x)
  job     : ∀ s x, x.jobs = s.job.jobs → P s → P (s.setJob x)
  free    : ∀ s n, P s → P (s.setFreeCount n)
  booked  : ∀ s b v d, P s → P (bookInterval b v d s)
  bored   : ∀ s raw, P s → P (boreEvaluate raw s).1

variable {P : State → Prop}

/-! ### Tags and members under the rod unit's updates -/

theorem map_tag_map (f : RodRecord → RodRecord) (hf : ∀ r, (f r).tag = r.tag) (l : List RodRecord) :
    (l.map f).map (·.tag) = l.map (·.tag) := by
  simp [List.map_map, Function.comp_def, hf]

theorem RodUnit.modify_tags (u : RodUnit) (tag : Nat) (f : RodRecord → RodRecord) (hf : ∀ r, (f r).tag = r.tag) :
    (u.modify tag f).rods.map (·.tag) = u.rods.map (·.tag) :=
  map_tag_map _ (fun r => by split <;> simp [hf]) _

theorem RodUnit.move_tags (u : RodUnit) (tag : Nat) (l : Location) :
    (u.move tag l).rods.map (·.tag) = u.rods.map (·.tag) := u.modify_tags tag _ fun _ => rfl

theorem RodUnit.release_tags (u : RodUnit) (n : Nat) : (u.release n).rods.map (·.tag) = u.rods.map (·.tag) :=
  map_tag_map _ (fun r => by split <;> rfl) _

theorem RodUnit.strand_tags (u : RodUnit) : u.strand.rods.map (·.tag) = u.rods.map (·.tag) :=
  map_tag_map _ (fun r => by split <;> rfl) _

theorem RodUnit.wear_tags (u : RodUnit) (tags : List Nat) (m : Nat) :
    (u.wear tags m).rods.map (·.tag) = u.rods.map (·.tag) :=
  map_tag_map _ (fun r => by split <;> rfl) _

/-! ### One lemma for each operation -/

theorem anyOrder_closed (C : Closed P) {fs : List (State → State)} (h : ∀ f ∈ fs, ∀ t, P t → P (f t)) (s : State)
    (hs : P s) : P (anyOrder fs s) := anyOrder_induct C.free h hs

theorem poolRefresh_closed (C : Closed P) (s : State) (h : P s) : P (poolRefresh s) := by
  unfold poolRefresh; split
  · exact C.bore _ _ h
  · exact h

theorem setSurvey_closed (C : Closed P) (s : State) (x : Option Survey) (h : P s) : P (s.setSurvey x) := C.circ _ _ h

theorem askReadSurvey_closed (C : Closed P) (s : State) (h : P s) : P (askReadSurvey s) := by
  unfold askReadSurvey; split <;> exact setSurvey_closed C _ _ h

theorem askSweepSurvey_closed (C : Closed P) (s : State) (h : P s) : P (askSweepSurvey s) := by
  unfold askSweepSurvey; split <;> exact setSurvey_closed C _ _ h

theorem surveyRefresh_closed (C : Closed P) (s : State) (h : P s) : P (surveyRefresh s) := by
  unfold surveyRefresh; split
  · exact h
  · split
    · exact h
    · exact setSurvey_closed C _ _ h

theorem withdrawSweepWaiter_closed (C : Closed P) (s : State) (h : P s) : P (withdrawSweepWaiter s) := by
  unfold withdrawSweepWaiter; split
  · exact h
  · split <;> exact setSurvey_closed C _ _ h

theorem sweepStart_closed (C : Closed P) (v : Nat) (s : State) (h : P s) : P (sweepStart v s) := by
  unfold sweepStart; split
  · exact askSweepSurvey_closed C _ (C.sweep _ _ h)
  · exact h

theorem endSweepOwed_closed (C : Closed P) (o : SweepOutcome) (s : State) (h : P s) : P (endSweepOwed o s) := by
  unfold endSweepOwed; split
  · exact h
  · exact withdrawSweepWaiter_closed C _ (C.sweep _ _ h)

theorem dischargeSweep_closed (C : Closed P) (o : SweepOutcome) (s : State) (h : P s) : P (dischargeSweep o s) :=
  withdrawSweepWaiter_closed C _ (C.sweep _ _ h)

theorem takeSpacings_closed (C : Closed P) (s : State) (h : P s) : P (takeSpacings s) := C.sweep _ _ h

theorem crossSpacings_closed (C : Closed P) (s : State) (h : P s) : P (crossSpacings s) := by
  unfold crossSpacings
  simp only
  split
  · exact takeSpacings_closed C s h
  · exact sweepStart_closed C 0 _ (takeSpacings_closed C s h)

theorem advanceCounter_closed (C : Closed P) (n : Nat) (s : State) (h : P s) : P (advanceCounter n s) :=
  takeSpacings_closed C _ (C.sweep _ _ h)

theorem sweepExtension_closed (C : Closed P) (n : Nat) (s : State) (h : P s) : P (sweepExtension n s) := by
  refine anyOrder_closed C ?_ s h
  simp only [List.mem_cons, List.not_mem_nil, or_false, forall_eq_or_imp, forall_eq]
  exact ⟨endSweepOwed_closed C _, advanceCounter_closed C n⟩

theorem setActivity_closed (C : Closed P) (a : Activity) (s : State) (h : P s) : P (setActivity a s) := by
  unfold setActivity; split
  · exact h
  · exact sweepStart_closed C 0 _ (C.job _ _ rfl h)

theorem deriveActivity_closed (C : Closed P) (s : State) (h : P s) : P (deriveActivity s) := setActivity_closed C _ s h

theorem mapEdited_closed (C : Closed P) (s : State) (h : P s) : P (mapEdited s) :=
  surveyRefresh_closed C _ (poolRefresh_closed C s h)

theorem wearRods_closed (C : Closed P) (tags : List Nat) (m : Nat) (s : State) (h : P s) : P (wearRods tags m s) :=
  C.rod _ _ (s.rod.wear_tags tags m) rfl h

theorem makeUpWear_closed (C : Closed P) (s : State) (h : P s) : P (makeUpWear s) := by
  unfold makeUpWear; split
  · refine anyOrder_closed C ?_ s h
    simp only [List.mem_cons, List.not_mem_nil, or_false, forall_eq_or_imp, forall_eq]
    exact ⟨wearRods_closed C _ _, wearRods_closed C _ _⟩
  · exact h

theorem setDepths_closed (C : Closed P) (raw rep : Nat) (s : State) (h : P s) : P (setDepths raw rep s) :=
  C.rod _ _ rfl rfl h

theorem recomputeDepth_closed (C : Closed P) (s : State) (h : P s) : P (recomputeDepth s) := by
  have k := C.bored s s.rawFromString h
  unfold recomputeDepth
  simp only
  split
  · exact surveyRefresh_closed C _ (setDepths_closed C _ _ _ k)
  · exact surveyRefresh_closed C _ (setDepths_closed C _ _ _ (wearRods_closed C _ _ _ k))

theorem depthAtStringChange_closed (C : Closed P) (s : State) (h : P s) : P (depthAtStringChange s) := by
  unfold depthAtStringChange; split
  · split
    · exact surveyRefresh_closed C _ (setDepths_closed C _ _ _ (C.bored s 0 h))
    · exact surveyRefresh_closed C s h
  · exact recomputeDepth_closed C s h

theorem sweepTakesExtension_closed (C : Closed P) (n : Nat) (s : State) (h : P s) : P (sweepTakesExtension n s) := by
  unfold sweepTakesExtension; split
  · exact sweepExtension_closed C _ s h
  · exact h

theorem withExtension_closed (C : Closed P) {fs : List (State → State)} (h : ∀ f ∈ fs, ∀ t, P t → P (f t)) (s : State)
    (hs : P s) : P (withExtension fs s) := sweepTakesExtension_closed C _ _ (anyOrder_closed C h s hs)

/-- After a drilling extension no sweep is in progress: what the extension ends does not start at its event (R130,
R135). -/
theorem sweepExtension_current (n : Nat) (s : State) : (sweepExtension n s).sweep.current = none := by
  have e : ∀ t : State, (endSweepOwed .endedDrilling t).sweep.current = none := by
    intro t; unfold endSweepOwed; split
    · assumption
    · unfold withdrawSweepWaiter; split
      · rfl
      · split <;> rfl
  have a : ∀ t : State, (advanceCounter n t).sweep.current = t.sweep.current := fun _ => rfl
  have key : ∀ o ∈ orders [endSweepOwed .endedDrilling, advanceCounter n], (inOrder o s).sweep.current = none := by
    simp only [orders, insertions, List.flatMap_cons, List.flatMap_nil, List.append_nil, List.mem_cons, List.map_cons,
      List.map_nil, List.not_mem_nil, or_false, forall_eq_or_imp, forall_eq]
    exact ⟨(a _).trans (e _), e _⟩
  obtain ⟨o, ho, h | h⟩ := anyOrder_cases [endSweepOwed .endedDrilling, advanceCounter n] s
  · exact (congrArg (·.sweep.current) h).trans (key o ho)
  · exact (congrArg (·.sweep.current) h).trans (key o ho)

theorem stringChanged_closed (C : Closed P) (s : State) (h : P s) : P (stringChanged s) := by
  refine withExtension_closed C ?_ s h
  simp only [List.mem_cons, List.not_mem_nil, or_false, forall_eq_or_imp, forall_eq]
  exact ⟨depthAtStringChange_closed C, deriveActivity_closed C⟩

theorem rebase_closed (C : Closed P) (s : State) (h : P s) : P (rebase s) := C.circ _ _ h

theorem recordBalance_closed (C : Closed P) (x : BalanceRecord) (s : State) (h : P s) : P (recordBalance x s) :=
  C.circ _ _ h

theorem bookOutcome_closed (C : Closed P) (o : BalanceOutcome) (s : State) (h : P s) : P (bookOutcome o s) := by
  cases o <;> simp only [bookOutcome] <;> first | exact h | exact C.booked _ _ _ _ h

theorem book_closed (C : Closed P) (c : BalanceCause) (e : Option Nat) (s : State) (h : P s) : P (book c e s) := by
  unfold book; split
  · exact recordBalance_closed C _ s h
  · split
    · exact rebase_closed C _ (recordBalance_closed C _ s h)
    · exact rebase_closed C _ (recordBalance_closed C _ _ (bookOutcome_closed C _ s h))

theorem evaluatePitLow_closed (C : Closed P) (s : State) (h : P s) : P (evaluatePitLow s) := C.circ _ _ h

theorem pitValueTaken_closed (C : Closed P) (s : State) (h : P s) : P (pitValueTaken s) := by
  have k : P (evaluatePitLow (s.setCirc { s.circ with pitTaken := true })) := evaluatePitLow_closed C _ (C.circ _ _ h)
  unfold pitValueTaken
  simp only
  split
  · exact rebase_closed C _ (recordBalance_closed C _ _ k)
  · split
    · exact C.circ _ _ k
    · exact k

theorem refreshReleases_closed (C : Closed P) (s : State) (h : P s) : P (refreshReleases s) := C.handler _ _ h

theorem refreshRot_closed (C : Closed P) (s : State) (h : P s) : P (refreshRot s) := C.handler _ _ h

theorem refreshPermits_closed (C : Closed P) (s : State) (h : P s) : P (refreshPermits s) :=
  refreshRot_closed C _ (refreshReleases_closed C s h)

theorem endHead_closed (C : Closed P) (r : Option AbortReason) (s : State) (h : P s) : P (endHead r s) := by
  unfold endHead; split
  · exact h
  · next e others _ =>
    simp only
    have k : ∀ u x, u.rods.map (·.tag) = s.rod.rods.map (·.tag) → u.members = s.rod.members →
        P (deriveActivity (refreshPermits ((s.setRod u).setHandler x))) := fun u x hu hm =>
      deriveActivity_closed C _ (refreshPermits_closed C _ (C.handler _ _ (C.rod _ _ hu hm h)))
    have hu : ((if r.isSome && e.stage.working then s.rod.strand else s.rod).release e.num).rods.map (·.tag) =
        s.rod.rods.map (·.tag) := by
      rw [RodUnit.release_tags]; split
      · exact RodUnit.strand_tags _
      · rfl
    have hm : ((if r.isSome && e.stage.working then s.rod.strand else s.rod).release e.num).members =
        s.rod.members := by
      split <;> rfl
    split
    · exact sweepStart_closed C 0 _ (k _ _ hu hm)
    · exact k _ _ hu hm

theorem setStage_closed (C : Closed P) (st : Stage) (r : List Stage) (s : State) (h : P s) : P (setStage st r s) := by
  unfold setStage; split
  · exact h
  · exact C.handler _ _ h

theorem takeFromRack_closed (C : Closed P) (op : Operation) (st : Stage) (s : State) (h : P s) :
    P (takeFromRack op st s) := by
  unfold takeFromRack; split
  · split
    · exact C.rod _ _ (RodUnit.move_tags _ _ _) rfl h
    · exact h
  · exact h
  · exact h

theorem beginTransfer_closed (C : Closed P) (x : Holder) (s : State) (h : P s) : P (beginTransfer x s) :=
  refreshPermits_closed C _ (C.handler _ _ h)

theorem enterStage_closed (C : Closed P) (op : Operation) (st : Stage) (r : List Stage) (s : State) (h : P s) :
    P (enterStage op st r s) :=
  deriveActivity_closed C _ (refreshPermits_closed C _ (takeFromRack_closed C op st _ (setStage_closed C st r s h)))

theorem runStages_closed (C : Closed P) (op : Operation) (p : List Stage) (s : State) (h : P s) :
    P (runStages op p s) := by
  induction p generalizing s with
  | nil => exact endHead_closed C none s h
  | cons st r ih =>
    simp only [runStages]
    have k := enterStage_closed C op st r s h
    split
    · exact k
    · split
      · exact ih _ k
      · exact beginTransfer_closed C _ _ k

theorem nextStage_closed (C : Closed P) (s : State) (h : P s) : P (nextStage s) := by
  unfold nextStage; split
  · exact h
  · exact runStages_closed C _ _ s h

theorem leaveWaiting_closed (C : Closed P) (e : Entry) (s : State) (h : P s) : P (leaveWaiting e s) := by
  unfold leaveWaiting; split
  · exact endHead_closed C _ s h
  · split
    · exact h
    · exact runStages_closed C _ _ _ (book_closed C _ _ _ (refreshRot_closed C _ (setStage_closed C _ _ _
        (C.handler _ _ h))))

theorem testHead_closed (C : Closed P) (s : State) (h : P s) : P (testHead s) := by
  unfold testHead; split
  · exact h
  · split
    · split
      · exact deriveActivity_closed C _ (setStage_closed C _ _ s h)
      · exact endHead_closed C _ s h
    · exact h

theorem runQueueFor_closed (C : Closed P) (n : Nat) (s : State) (h : P s) : P (runQueueFor n s) := by
  induction n generalizing s with
  | zero => exact h
  | succ n ih =>
    simp only [runQueueFor]
    have k := testHead_closed C s h
    split
    · exact k
    · split
      · exact ih _ k
      · split
        · next e _ _ _ _ =>
          have l := leaveWaiting_closed C e (testHead s) k
          split
          · exact ih _ l
          · exact l
        · exact k

theorem runQueue_closed (C : Closed P) (s : State) (h : P s) : P (runQueue s) := runQueueFor_closed C _ s h

theorem completeTransfer_closed (C : Closed P) (x : Holder) (s : State) (h : P s) : P (completeTransfer x s) :=
  runQueue_closed C _ (nextStage_closed C _ (refreshPermits_closed C _ (C.handler _ _ h)))

theorem abortWorking_closed (C : Closed P) (r : AbortReason) (s : State) (h : P s) : P (abortWorking r s) := by
  unfold abortWorking; split
  · exact runQueue_closed C _ (endHead_closed C _ s h)
  · exact h

theorem latchHoldFault_closed (C : Closed P) (s : State) (h : P s) : P (latchHoldFault s) :=
  abortWorking_closed C _ _ (deriveActivity_closed C _ (refreshPermits_closed C _ (C.handler _ _ h)))

theorem clearFaultLatches_closed (C : Closed P) (s : State) (h : P s) : P (clearFaultLatches s) := by
  unfold clearFaultLatches; split
  · exact runQueue_closed C _ (deriveActivity_closed C _ (refreshPermits_closed C _ (C.handler _ _ h)))
  · exact h

theorem completeSweep_closed (C : Closed P) (s : State) (h : P s) : P (completeSweep s) :=
  runQueue_closed C _ (dischargeSweep_closed C _ s h)

theorem completionTest_closed (C : Closed P) (s : State) (h : P s) : P (completionTest s) := by
  unfold completionTest; split
  · exact h
  · split
    · exact h
    · split
      · exact completeSweep_closed C s h
      · exact h

theorem setTarget_closed (C : Closed P) (v : Nat) (s : State) (h : P s) : P (setTarget v s) := by
  unfold setTarget; split
  · exact h
  · exact completionTest_closed C _ (C.sweep _ _ h)

theorem sweepStrokes_closed (C : Closed P) (v : Nat) (s : State) (h : P s) : P (sweepStrokes v s) := by
  unfold sweepStrokes; split
  · exact sweepStart_closed C v s h
  · exact completionTest_closed C _ (C.sweep _ _ h)

theorem strokesCounted_closed (C : Closed P) (p : Pump) (d : Nat) (s : State) (h : P s) : P (strokesCounted p d s) := by
  unfold strokesCounted; split
  · exact h
  · exact sweepStrokes_closed C _ _ (C.circ _ _ h)

theorem endHold_closed (C : Closed P) (s : State) (h : P s) : P (endHold s) :=
  sweepStart_closed C 0 _ (endSweepOwed_closed C _ s h)

theorem setHold_closed (C : Closed P) (x : Option Nat) (r : SweepRun) (s : State) (h : P s) : P (setHold x r s) :=
  C.sweep _ _ h

theorem holdFollowsPumps_closed (C : Closed P) (s : State) (h : P s) : P (holdFollowsPumps s) := by
  unfold holdFollowsPumps; split
  · exact h
  · split
    · exact setHold_closed C _ _ s h
    · split
      · exact h
      · split
        · exact endHold_closed C _ (setHold_closed C _ _ s h)
        · exact setHold_closed C _ _ s h

theorem pumpStateChanged_closed (C : Closed P) (s : State) (h : P s) : P (pumpStateChanged s) :=
  sweepStart_closed C 0 _ (holdFollowsPumps_closed C _ (C.circ _ _ h))

/-! ## Frames -/

/-- Two states that agree on every part the blocks' own operations leave alone. -/
structure Inner (s t : State) : Prop where
  hub     : t.hub = s.hub
  pricing : t.pricing = s.pricing
  port    : t.port = s.port
  config  : t.config = s.config
  power   : t.power = s.power
  pins    : t.pins = s.pins
  pending : t.pending = s.pending
  tags    : t.rod.rods.map (·.tag) = s.rod.rods.map (·.tag)
  members : t.rod.members = s.rod.members

theorem Inner.refl (s : State) : Inner s s := ⟨rfl, rfl, rfl, rfl, rfl, rfl, rfl, rfl, rfl⟩

theorem Inner.trans {a b c : State} (h : Inner a b) (k : Inner b c) : Inner a c :=
  ⟨k.hub.trans h.hub, k.pricing.trans h.pricing, k.port.trans h.port, k.config.trans h.config,
   k.power.trans h.power, k.pins.trans h.pins, k.pending.trans h.pending, k.tags.trans h.tags,
   k.members.trans h.members⟩

theorem putJob_inner (s : State) (n : Nat) (x : Option Job) : Inner s (s.putJob n x) :=
  ⟨rfl, rfl, rfl, rfl, rfl, rfl, rfl, rfl, rfl⟩

theorem modifyJob_inner (s : State) (n : Nat) (f : Job → Job) : Inner s (s.modifyJob n f) := by
  unfold State.modifyJob; split
  · exact putJob_inner s _ _
  · exact .refl s

theorem modifyActive_inner (s : State) (f : Job → Job) : Inner s (s.modifyActive f) := by
  unfold State.modifyActive; split
  · exact putJob_inner s _ _
  · exact .refl s

theorem boreEvaluate_inner (raw : Nat) (s : State) : Inner s (boreEvaluate raw s).1 := by
  have hd : ∀ b, Inner s (setDisagree b s) := fun b => ⟨rfl, rfl, rfl, rfl, rfl, rfl, rfl, rfl, rfl⟩
  unfold boreEvaluate; split
  · exact hd _
  · split
    · exact hd _
    · split
      · split
        · exact hd _
        · exact ⟨rfl, rfl, rfl, rfl, rfl, rfl, rfl, rfl, rfl⟩
      · exact hd _

/-- Agreement with one state is a property that every update keeps. -/
theorem Inner.closed (a : State) : Closed (Inner a) where
  rod := fun _ _ ht hm h => ⟨h.hub, h.pricing, h.port, h.config, h.power, h.pins, h.pending, ht.trans h.tags, hm.trans h.members⟩
  bore := fun _ _ h => ⟨h.hub, h.pricing, h.port, h.config, h.power, h.pins, h.pending, h.tags, h.members⟩
  handler := fun _ _ h => ⟨h.hub, h.pricing, h.port, h.config, h.power, h.pins, h.pending, h.tags, h.members⟩
  circ := fun _ _ h => ⟨h.hub, h.pricing, h.port, h.config, h.power, h.pins, h.pending, h.tags, h.members⟩
  sweep := fun _ _ h => ⟨h.hub, h.pricing, h.port, h.config, h.power, h.pins, h.pending, h.tags, h.members⟩
  job := fun _ _ _ h => ⟨h.hub, h.pricing, h.port, h.config, h.power, h.pins, h.pending, h.tags, h.members⟩
  free := fun _ _ h => ⟨h.hub, h.pricing, h.port, h.config, h.power, h.pins, h.pending, h.tags, h.members⟩
  booked := fun _ _ _ _ h => h.trans (modifyActive_inner _ _)
  bored := fun _ _ h => h.trans (boreEvaluate_inner _ _)

theorem poolRefresh_inner (s : State) : Inner s (poolRefresh s) :=
  poolRefresh_closed (Inner.closed s) s (.refl s)
theorem askReadSurvey_inner (s : State) : Inner s (askReadSurvey s) :=
  askReadSurvey_closed (Inner.closed s) s (.refl s)
theorem askSweepSurvey_inner (s : State) : Inner s (askSweepSurvey s) :=
  askSweepSurvey_closed (Inner.closed s) s (.refl s)
theorem surveyRefresh_inner (s : State) : Inner s (surveyRefresh s) :=
  surveyRefresh_closed (Inner.closed s) s (.refl s)
theorem withdrawSweepWaiter_inner (s : State) : Inner s (withdrawSweepWaiter s) :=
  withdrawSweepWaiter_closed (Inner.closed s) s (.refl s)
theorem sweepStart_inner (v : Nat) (s : State) : Inner s (sweepStart v s) :=
  sweepStart_closed (Inner.closed s) v s (.refl s)
theorem endSweepOwed_inner (o : SweepOutcome) (s : State) : Inner s (endSweepOwed o s) :=
  endSweepOwed_closed (Inner.closed s) o s (.refl s)
theorem dischargeSweep_inner (o : SweepOutcome) (s : State) : Inner s (dischargeSweep o s) :=
  dischargeSweep_closed (Inner.closed s) o s (.refl s)
theorem crossSpacings_inner (s : State) : Inner s (crossSpacings s) :=
  crossSpacings_closed (Inner.closed s) s (.refl s)
theorem sweepExtension_inner (n : Nat) (s : State) : Inner s (sweepExtension n s) :=
  sweepExtension_closed (Inner.closed s) n s (.refl s)
theorem deriveActivity_inner (s : State) : Inner s (deriveActivity s) :=
  deriveActivity_closed (Inner.closed s) s (.refl s)
theorem setActivity_inner (a : Activity) (s : State) : Inner s (setActivity a s) :=
  setActivity_closed (Inner.closed s) a s (.refl s)
theorem mapEdited_inner (s : State) : Inner s (mapEdited s) :=
  mapEdited_closed (Inner.closed s) s (.refl s)
theorem makeUpWear_inner (s : State) : Inner s (makeUpWear s) :=
  makeUpWear_closed (Inner.closed s) s (.refl s)
theorem recomputeDepth_inner (s : State) : Inner s (recomputeDepth s) :=
  recomputeDepth_closed (Inner.closed s) s (.refl s)
theorem depthAtStringChange_inner (s : State) : Inner s (depthAtStringChange s) :=
  depthAtStringChange_closed (Inner.closed s) s (.refl s)
theorem stringChanged_inner (s : State) : Inner s (stringChanged s) :=
  stringChanged_closed (Inner.closed s) s (.refl s)
theorem rebase_inner (s : State) : Inner s (rebase s) :=
  rebase_closed (Inner.closed s) s (.refl s)
theorem book_inner (c : BalanceCause) (e : Option Nat) (s : State) : Inner s (book c e s) :=
  book_closed (Inner.closed s) c e s (.refl s)
theorem pitValueTaken_inner (s : State) : Inner s (pitValueTaken s) :=
  pitValueTaken_closed (Inner.closed s) s (.refl s)
theorem refreshPermits_inner (s : State) : Inner s (refreshPermits s) :=
  refreshPermits_closed (Inner.closed s) s (.refl s)
theorem endHead_inner (r : Option AbortReason) (s : State) : Inner s (endHead r s) :=
  endHead_closed (Inner.closed s) r s (.refl s)
theorem nextStage_inner (s : State) : Inner s (nextStage s) :=
  nextStage_closed (Inner.closed s) s (.refl s)
theorem runQueue_inner (s : State) : Inner s (runQueue s) :=
  runQueue_closed (Inner.closed s) s (.refl s)
theorem completeTransfer_inner (x : Holder) (s : State) : Inner s (completeTransfer x s) :=
  completeTransfer_closed (Inner.closed s) x s (.refl s)
theorem abortWorking_inner (r : AbortReason) (s : State) : Inner s (abortWorking r s) :=
  abortWorking_closed (Inner.closed s) r s (.refl s)
theorem latchHoldFault_inner (s : State) : Inner s (latchHoldFault s) :=
  latchHoldFault_closed (Inner.closed s) s (.refl s)
theorem clearFaultLatches_inner (s : State) : Inner s (clearFaultLatches s) :=
  clearFaultLatches_closed (Inner.closed s) s (.refl s)
theorem setTarget_inner (v : Nat) (s : State) : Inner s (setTarget v s) :=
  setTarget_closed (Inner.closed s) v s (.refl s)
theorem strokesCounted_inner (p : Pump) (d : Nat) (s : State) : Inner s (strokesCounted p d s) :=
  strokesCounted_closed (Inner.closed s) p d s (.refl s)
theorem endHold_inner (s : State) : Inner s (endHold s) :=
  endHold_closed (Inner.closed s) s (.refl s)
theorem pumpStateChanged_inner (s : State) : Inner s (pumpStateChanged s) :=
  pumpStateChanged_closed (Inner.closed s) s (.refl s)

end Sys2Proof.Machine
end

