-- ==== Sys2Proof/Laws/PerInstr.lean ====
section
/-! SUPPORT. A statement about every command as syntax: a command is a host request exactly if it has a code, and the
argument bytes of a well-formed one fit an exchange. -/
namespace Sys2Proof.Laws.ArgumentBytes
open Sys2Proof Sys2Proof.Machine

/-- A command carries argument bytes exactly if it has a request code, and a well-formed one has at most 62 of them
(R180). -/
def Statement (i : Instr) : Prop :=
  i.args?.isSome = (codeOf i).isSome ∧ ∀ a ∈ i.args?, i.wellFormed = true → a.length ≤ maxArgs

/-- The form in which every request shows it. -/
theorem of_args {i : Instr} {a : List Byte} (h : i.args? = some a) (hc : (codeOf i).isSome = true) : Statement i := by
  refine ⟨by simp [h, hc], fun b hb hw => ?_⟩
  have hb : b = a := by simpa [h] using hb.symm
  subst hb
  simp only [Instr.wellFormed, Instr.argsFit, h, Bool.and_eq_true, decide_eq_true_eq] at hw
  exact hw.1.1.1

/-- The form in which every other event shows it. -/
theorem of_none {i : Instr} (h : i.args? = none) (hc : codeOf i = none) : Statement i :=
  ⟨by simp [h, hc], fun a ha => by simp [h] at ha⟩

theorem enterRod : ∀ w, Statement (.enterRod w) := fun _ => of_args rfl rfl
theorem lookUpRod : ∀ w, Statement (.lookUpRod w) := fun _ => of_args rfl rfl
theorem amendRod : ∀ w, Statement (.amendRod w) := fun _ => of_args rfl rfl
theorem quarantineRod : ∀ w, Statement (.quarantineRod w) := fun _ => of_args rfl rfl
theorem returnRod : ∀ w, Statement (.returnRod w) := fun _ => of_args rfl rfl
theorem retireRod : ∀ w, Statement (.retireRod w) := fun _ => of_args rfl rfl
theorem resolveRod : ∀ w, Statement (.resolveRod w) := fun _ => of_args rfl rfl
theorem listString : ∀ w, Statement (.listString w) := fun _ => of_args rfl rfl
theorem readString : ∀ w, Statement (.readString w) := fun _ => of_args rfl rfl
theorem newFormation : ∀ w, Statement (.newFormation w) := fun _ => of_args rfl rfl
theorem lookUpInterval : ∀ w, Statement (.lookUpInterval w) := fun _ => of_args rfl rfl
theorem amendInterval : ∀ w, Statement (.amendInterval w) := fun _ => of_args rfl rfl
theorem splitInterval : ∀ w, Statement (.splitInterval w) := fun _ => of_args rfl rfl
theorem mergeIntervals : ∀ w, Statement (.mergeIntervals w) := fun _ => of_args rfl rfl
theorem setDiameterRange : ∀ w, Statement (.setDiameterRange w) := fun _ => of_args rfl rfl
theorem recordStrike : ∀ w, Statement (.recordStrike w) := fun _ => of_args rfl rfl
theorem clearStrike : ∀ w, Statement (.clearStrike w) := fun _ => of_args rfl rfl
theorem changeBit : ∀ w, Statement (.changeBit w) := fun _ => of_args rfl rfl
theorem readLive : ∀ w x y z, Statement (.readLive w x y z) := fun _ _ _ _ => of_args rfl rfl
theorem addRod : ∀ w, Statement (.addRod w) := fun _ => of_args rfl rfl
theorem pullRod : ∀ w, Statement (.pullRod w) := fun _ => of_args rfl rfl
theorem transferHold : ∀ w, Statement (.transferHold w) := fun _ => of_args rfl rfl
theorem cancelHandler : ∀ w, Statement (.cancelHandler w) := fun _ => of_args rfl rfl
theorem readHandler : ∀ w, Statement (.readHandler w) := fun _ => of_args rfl rfl
theorem setPump : ∀ w, Statement (.setPump w) := fun _ => of_args rfl rfl
theorem readCirculation : ∀ w, Statement (.readCirculation w) := fun _ => of_args rfl rfl
theorem mudCheck : ∀ w, Statement (.mudCheck w) := fun _ => of_args rfl rfl
theorem rebaseBalance : ∀ w, Statement (.rebaseBalance w) := fun _ => of_args rfl rfl
theorem readBalance : ∀ w, Statement (.readBalance w) := fun _ => of_args rfl rfl
theorem requestSweep : ∀ w, Statement (.requestSweep w) := fun _ => of_args rfl rfl
theorem waiveSweep : ∀ w, Statement (.waiveSweep w) := fun _ => of_args rfl rfl
theorem readSweep : ∀ w, Statement (.readSweep w) := fun _ => of_args rfl rfl
theorem openJob : ∀ w, Statement (.openJob w) := fun _ => of_args rfl rfl
theorem completeJob : ∀ w, Statement (.completeJob w) := fun _ => of_args rfl rfl
theorem lookUpJob : ∀ w, Statement (.lookUpJob w) := fun _ => of_args rfl rfl
theorem retireJob : ∀ w x, Statement (.retireJob w x) := fun _ _ => of_args rfl rfl
theorem enterRate : ∀ w x, Statement (.enterRate w x) := fun _ _ => of_args rfl rfl
theorem amendRate : ∀ w x, Statement (.amendRate w x) := fun _ _ => of_args rfl rfl
theorem retireRate : ∀ w x, Statement (.retireRate w x) := fun _ _ => of_args rfl rfl
theorem lookUpRate : ∀ w, Statement (.lookUpRate w) := fun _ => of_args rfl rfl
theorem priceJob : ∀ w, Statement (.priceJob w) := fun _ => of_args rfl rfl
theorem pricingComplete : Statement .pricingComplete := of_none rfl rfl
theorem readInvoiceLine : ∀ w, Statement (.readInvoiceLine w) := fun _ => of_args rfl rfl
theorem releasePricing : ∀ w x, Statement (.releasePricing w x) := fun _ _ => of_args rfl rfl
theorem settleJob : ∀ w x, Statement (.settleJob w x) := fun _ _ => of_args rfl rfl
theorem readAttention : ∀ w, Statement (.readAttention w) := fun _ => of_args rfl rfl
theorem clearFaults : ∀ w, Statement (.clearFaults w) := fun _ => of_args rfl rfl
theorem readConfig : ∀ w, Statement (.readConfig w) := fun _ => of_args rfl rfl
theorem setConfig : ∀ w, Statement (.setConfig w) := fun _ => of_args rfl rfl
theorem unknownRequest : ∀ w x, Statement (.unknownRequest w x) := fun _ _ => of_args rfl rfl
theorem exchangeBegin : Statement .exchangeBegin := of_none rfl rfl
theorem exchangeEnd : ∀ w x, Statement (.exchangeEnd w x) := fun _ _ => of_none rfl rfl
theorem frameArrival : ∀ w, Statement (.frameArrival w) := fun _ => of_none rfl rfl
theorem frameCutShort : Statement .frameCutShort := of_none rfl rfl
theorem linkLoss : Statement .linkLoss := of_none rfl rfl
theorem strokeTimeout : ∀ w, Statement (.strokeTimeout w) := fun _ => of_none rfl rfl
theorem sweepHoldExpiry : Statement .sweepHoldExpiry := of_none rfl rfl
theorem surveyComplete : Statement .surveyComplete := of_none rfl rfl
theorem settleReached : Statement .settleReached := of_none rfl rfl
theorem holderInputChange : ∀ w x, Statement (.holderInputChange w x) := fun _ _ => of_none rfl rfl
theorem wrenchDoneRise : Statement .wrenchDoneRise := of_none rfl rfl
theorem rackedRise : Statement .rackedRise := of_none rfl rfl
theorem blankingEnd : Statement .blankingEnd := of_none rfl rfl
theorem closedRunReachesTransferTime : ∀ w, Statement (.closedRunReachesTransferTime w) := fun _ => of_none rfl rfl
theorem stageTimeout : Statement .stageTimeout := of_none rfl rfl
theorem allstopFall : Statement .allstopFall := of_none rfl rfl
theorem allstopRise : Statement .allstopRise := of_none rfl rfl
theorem idleGraceExpiry : Statement .idleGraceExpiry := of_none rfl rfl
theorem standbyLimitExpiry : Statement .standbyLimitExpiry := of_none rfl rfl
theorem secondMark : Statement .secondMark := of_none rfl rfl
theorem rstFaultClearPulse : ∀ w, Statement (.rstFaultClearPulse w) := fun _ => of_none rfl rfl
theorem resetEntry : Statement .resetEntry := of_none rfl rfl
theorem start : ∀ w, Statement (.start w) := fun _ => of_none rfl rfl
theorem determinationEnd : Statement .determinationEnd := of_none rfl rfl
theorem mainPowerLoss : Statement .mainPowerLoss := of_none rfl rfl
theorem retentionLostSet : Statement .retentionLostSet := of_none rfl rfl
theorem backupLowChange : ∀ w, Statement (.backupLowChange w) := fun _ => of_none rfl rfl
theorem frameStart : Statement .frameStart := of_none rfl rfl
theorem resetLineFall : Statement .resetLineFall := of_none rfl rfl
theorem mainPowerReturnInReset : Statement .mainPowerReturnInReset := of_none rfl rfl

end Sys2Proof.Laws.ArgumentBytes
end

