-- ==== Sys2Proof/Laws/Receiver.lean ====
section
/-! SUPPORT. What the events of the hub line do: the hand-on leaves the receiver's own table alone, and with it all
that the blocks' operations leave alone. -/
namespace Sys2Proof.Machine

variable {P : State → Prop}

theorem handOnDepth_closed (C : Closed P) (h : HandOn) (s : State) (hs : P s) : P (handOnDepth h s) := by
  unfold handOnDepth; split
  · exact recomputeDepth_closed C s hs
  · exact hs

theorem handOnActivity_closed (C : Closed P) (h : HandOn) (s : State) (hs : P s) : P (handOnActivity h s) := by
  unfold handOnActivity; split
  · exact deriveActivity_closed C s hs
  · exact hs

theorem handOnFlow_closed (C : Closed P) (h : HandOn) (s : State) (hs : P s) : P (handOnFlow h s) := by
  have h1 : P (anyOrder [strokesCounted .a h.strokesA, strokesCounted .b h.strokesB] s) := by
    refine anyOrder_closed C ?_ s hs
    simp only [List.mem_cons, List.not_mem_nil, or_false, forall_eq_or_imp, forall_eq]
    exact ⟨strokesCounted_closed C _ _, strokesCounted_closed C _ _⟩
  have ite : ∀ (b : Bool) (f : State → State) (t : State), (∀ u, P u → P (f u)) → P t → P (if b then f t else t) := by
    intro b f t hf ht; cases b
    · exact ht
    · exact hf t ht
  exact ite _ _ _ (runQueue_closed C) (ite _ _ _ (pitValueTaken_closed C) (ite _ _ _ (pumpStateChanged_closed C) h1))

/-- The hand-on keeps every property that the blocks' updates keep. -/
theorem handOn_closed (C : Closed P) (h : HandOn) (s : State) (hs : P s) : P (handOn h s) := by
  refine withExtension_closed C ?_ s hs
  simp only [List.mem_cons, List.not_mem_nil, or_false, forall_eq_or_imp, forall_eq]
  exact ⟨handOnDepth_closed C h, handOnFlow_closed C h, handOnActivity_closed C h⟩

/-- The hand-on leaves the receiver's table alone (R50: the table is made first). -/
theorem handOnChanges_inner (b : State) (m n : Nat) (p k a : Bool) (s : State) :
    Inner s (handOnChanges b m n p k a s) := handOn_closed (Inner.closed s) _ s (.refl s)

/-! ## The receiver's events keep what the blocks keep and what a change of the table keeps -/

theorem takeFrame_closed (C : Closed P) (hub : ∀ s x, P s → P (s.setHub x)) (slot : Nat → Option Nat) (s : State)
    (h : P s) : P (takeFrame slot s) := handOn_closed C _ _ (hub _ _ h)

theorem frameArrives_closed (C : Closed P) (hub : ∀ s x, P s → P (s.setHub x)) (f : BitVec 120) (s : State)
    (h : P s) : P (frameArrives f s) := by
  unfold frameArrives; split
  · exact takeFrame_closed C hub _ _ (hub _ _ h)
  · exact h

theorem frameStarts_closed (C : Closed P) (hub : ∀ s x, P s → P (s.setHub x)) (s : State) (h : P s) :
    P (frameStarts s) := by
  unfold frameStarts
  simp only
  split
  · exact takeFrame_closed C hub _ _ (hub _ _ (hub _ _ h))
  · exact hub _ _ h

theorem linkLost_closed (C : Closed P) (hub : ∀ s x, P s → P (s.setHub x)) (s : State) (h : P s) : P (linkLost s) := by
  unfold linkLost; split
  · exact handOn_closed C _ _ (hub _ _ h)
  · exact h

theorem strokeTimedOut_closed (C : Closed P) (hub : ∀ s x, P s → P (s.setHub x)) (p : Pump) (s : State) (h : P s) :
    P (strokeTimedOut p s) := by
  unfold strokeTimedOut; split
  · exact handOn_closed C _ _ (hub _ _ h)
  · exact h

/-- Two states that agree on all that an event of the hub line leaves alone. -/
structure Outer (s t : State) : Prop where
  pricing : t.pricing = s.pricing
  port    : t.port = s.port
  config  : t.config = s.config
  power   : t.power = s.power
  pins    : t.pins = s.pins
  pending : t.pending = s.pending
  tags    : t.rod.rods.map (·.tag) = s.rod.rods.map (·.tag)
  members : t.rod.members = s.rod.members

theorem Outer.refl (s : State) : Outer s s := ⟨rfl, rfl, rfl, rfl, rfl, rfl, rfl, rfl⟩

/-- Agreement with one state is a property that every update of the blocks keeps. -/
theorem Outer.closed (a : State) : Closed (Outer a) := by
  have of_inner : ∀ {s t : State}, Outer a s → Inner s t → Outer a t := fun h k =>
    ⟨k.pricing.trans h.pricing, k.port.trans h.port, k.config.trans h.config, k.power.trans h.power,
     k.pins.trans h.pins, k.pending.trans h.pending, k.tags.trans h.tags, k.members.trans h.members⟩
  exact {
    rod := fun s x ht hm h => of_inner h ((Inner.closed s).rod s x ht hm (.refl s))
    bore := fun s x h => of_inner h ((Inner.closed s).bore s x (.refl s))
    handler := fun s x h => of_inner h ((Inner.closed s).handler s x (.refl s))
    circ := fun s x h => of_inner h ((Inner.closed s).circ s x (.refl s))
    sweep := fun s x h => of_inner h ((Inner.closed s).sweep s x (.refl s))
    job := fun s x hx h => of_inner h ((Inner.closed s).job s x hx (.refl s))
    free := fun s n h => of_inner h ((Inner.closed s).free s n (.refl s))
    booked := fun s b v d h => of_inner h (modifyActive_inner s _)
    bored := fun s raw h => of_inner h (boreEvaluate_inner raw s) }

theorem Outer.hub (a : State) : ∀ s x, Outer a s → Outer a (s.setHub x) := fun _ _ h =>
  ⟨h.pricing, h.port, h.config, h.power, h.pins, h.pending, h.tags, h.members⟩

/-- The table after a frame is the table its slots make: the hand-on does not enter it (R50). -/
theorem takeFrame_hub (slot : Nat → Option Nat) (s : State) : (takeFrame slot s).hub = s.hub.takeSlots slot :=
  (handOnChanges_inner _ _ _ _ _ _ _).hub

theorem frameArrives_outer (f : BitVec 120) (s : State) : Outer s (frameArrives f s) :=
  frameArrives_closed (Outer.closed s) (Outer.hub s) f s (.refl s)

theorem frameStarts_outer (s : State) : Outer s (frameStarts s) :=
  frameStarts_closed (Outer.closed s) (Outer.hub s) s (.refl s)

theorem linkLost_outer (s : State) : Outer s (linkLost s) := linkLost_closed (Outer.closed s) (Outer.hub s) s (.refl s)

theorem strokeTimedOut_outer (p : Pump) (s : State) : Outer s (strokeTimedOut p s) :=
  strokeTimedOut_closed (Outer.closed s) (Outer.hub s) p s (.refl s)

/-! ## One slot and one pump -/

theorem Quantity.take_none (lo hi : Nat) (q : Quantity) : q.take lo hi none = ⟨q.value, min (q.invalid + 1) 25⟩ := rfl

theorem Quantity.take_some (lo hi v : Nat) (q : Quantity) : q.take lo hi (some v) = ⟨max lo (min v hi), 0⟩ := rfl

/-- A taken value lies within its range (R51). -/
theorem Quantity.take_range {lo hi v : Nat} (h : lo ≤ hi) (q : Quantity) :
    lo ≤ (q.take lo hi (some v)).value ∧ (q.take lo hi (some v)).value ≤ hi := by
  simp only [Quantity.take_some]; omega

/-- Stroke accounting counts at most 50 strokes at one value (R54). -/
theorem PumpLine.take_le (x : Option Nat) (stale : Bool) (l : PumpLine) : (l.take x stale).2 ≤ 50 := by
  unfold PumpLine.take; split
  · exact Nat.zero_le _
  · split
    · exact Nat.zero_le _
    · simp only; split
      · exact Nat.zero_le _
      · split
        · assumption
        · exact Nat.zero_le _

end Sys2Proof.Machine
end

