-- ==== Sys2Proof/Tests/Slice0.lean ====
section
/-! SUPPORT. Tests of the author's own: an ill-formed command for each check of WellFormed, the worked examples of
spec/, and for every statement with hypotheses a theorem `hyps_<Name>` that shows concrete states and operands that
meet them, clause by clause, at boundary values where a clause has a range. -/
namespace Sys2Proof.Tests
open Sys2Proof Sys2Proof.Machine

set_option Elab.async false

/-! ## WellFormed: each check refuses an ill-formed command -/

theorem test_args_too_long_refused : (Instr.readString (List.replicate 63 0)).wellFormed = false := by decide +kernel
theorem test_args_of_62_accepted : (Instr.readString (List.replicate 62 0)).wellFormed = true := by decide +kernel
theorem test_known_code_refused : (Instr.unknownRequest 0x10 []).wellFormed = false := by decide +kernel
theorem test_poll_code_refused : (Instr.unknownRequest 0x00 []).wellFormed = false := by decide +kernel
theorem test_unused_code_accepted : (Instr.unknownRequest 0x4F []).wellFormed = true := by decide +kernel
theorem test_eight_partial_bits_refused : (Instr.exchangeEnd [] 8).wellFormed = false := by decide +kernel
theorem test_long_pulse_refused : (Instr.rstFaultClearPulse 200).wellFormed = false := by decide +kernel

/-! ## The states of the tests -/

/-- A quantity just taken. -/
def fresh (v : Nat) : Quantity := ⟨v, 0⟩

/-- A quantity that has gone stale. -/
def gone (v : Nat) : Quantity := ⟨v, 25⟩

/-- A rod of the first worked example of Circulation Volumes. -/
def rodAt (tag : Nat) (l : Location) : RodRecord := ⟨tag, .rod, 6000, 114, 97, 220, 5000000, 40000, l, none⟩

/-- A collar of the same example. -/
def collarAt (tag : Nat) (l : Location) : RodRecord := ⟨tag, .collar, 6000, 165, 92, 1150, 5000000, 40000, l, none⟩

/-- The map of the bore map's worked example. -/
def map3 : List Interval :=
  [⟨0, 12000, 6, 2, 445, 4020, 0, 0, false, none⟩,
   ⟨12000, 90000, 6, 3, 311, 31210, 2350000, 0, false, some ⟨71400, none, some 35⟩⟩,
   ⟨90000, 132500, 6, 6, 216, 52880, 1211500, 0, false, none⟩]

/-- The job of the pricing example, in a state. -/
def jobIn (st : JobState) (lines : List Line) : Job where
  state     := st
  customer  := 17
  site      := none
  bandWidth := 50000
  bit       := 216
  holeDepth := 132500
  map       := map3
  seconds   := ⟨1250, 126400, 3600, 21500, 9000, 2950, 36000, 0⟩
  waived    := 255
  lines     := lines
  total     := (lines.map (·.amount)).sum

/-- Two lines, the second unpriced. -/
def twoLines : List Line := [⟨.fixed, some 8, none, 1, 150000, 150000⟩, ⟨.strike, none, none, 1, 0, 0⟩]

/-- The rate table of the pricing example, without its labels. -/
def basaltRates : List (Option RateEntry) :=
  [some ⟨.footage, none, some (0, 0), none, none, 4500, none⟩, some ⟨.footage, some (1, 4), none, none, none, 5200, none⟩,
   some ⟨.footage, some (5, 8), none, none, none, 8800, none⟩, some ⟨.time, none, none, none, some 1, 18000, none⟩,
   some ⟨.time, none, none, none, some 3, 12000, none⟩, some ⟨.time, none, none, none, some 6, 6500, none⟩,
   some ⟨.time, none, none, none, none, 9500, none⟩, some ⟨.mud, none, none, none, none, 25000, none⟩,
   some ⟨.fixed, none, none, none, none, 150000, none⟩] ++ List.replicate 23 none

/-- A running rig: an ACTIVE job in slot 1, a COMPLETE one in slot 2, a PRICED one in slot 3; two members, the string
in the slips; rods in the rack, in quarantine and UNCERTAIN; every quantity fresh; pumps and rotary stopped; settled. -/
def rig : State :=
  { State.reset with
    rod := ⟨[rodAt 1 (.string 1), rodAt 2 (.string 2), rodAt 3 (.rack 5), { rodAt 4 (.rack 6) with wearMilli := 40000000 },
      rodAt 5 .quarantine, rodAt 6 .uncertain], [], [1, 2], 10500, 10500, none, false⟩
    hub := { HubUnit.start with
      strokesA := fresh 10, strokesB := fresh 10, pitLevel := fresh 1000, hookLoad := fresh 300, stickUp := fresh 1500,
      rotary := fresh 0, density := fresh 1200, pumpA := ⟨some 10, .stopped, 0, 0⟩, pumpB := ⟨some 10, .stopped, 0, 0⟩,
      linkUp := true }
    handler := { HandlerUnit.start none none true false with
      determinationMs := none, carrier := some .slips, slipsRun := some 5000 }
    circ := { CircUnit.start ⟨false, 0, 0, 0⟩ with
      settleMs := 60000, pitTaken := true, ref := ⟨true, 8000000, 132500, 0⟩ }
    job := ⟨⟨some (jobIn .active []), some (jobIn .complete []), some (jobIn .priced twoLines), none⟩, .idle, 0, 0, 0⟩
    pricing := ⟨basaltRates, [3], none⟩
    pins := ⟨true, false, false, false, true, true, false⟩ }

/-- The rig with its handler's queue, the one entry past WAITING or waiting. -/
def rigWith (queue : List Entry) (h : HandlerUnit) : State := rig.setHandler { h with queue := queue, nextNum := 8 }

/-- The rig with an empty string and no carrier. -/
def emptyHole : State :=
  (rig.setRod { rig.rod with rods := [rodAt 3 (.rack 5), rodAt 5 .quarantine, rodAt 6 .uncertain], members := [] }).setHandler
    { rig.handler with carrier := none }

/-- The rig with its slot 1 free. -/
def noActive : State := rig.putJob 1 none

/-- The rig with one member, the string in the slips. -/
def oneMember : State := rig.setRod { rig.rod with
  rods := [rodAt 1 (.string 1), rodAt 3 (.rack 5)], members := [1], slotRes := [(9, 7)] }

/-- The rig with its queue full of transfers. -/
def fullQueue : State := rig.setHandler { rig.handler with
  queue := [⟨1, .transferHold .slips, .waiting, []⟩, ⟨2, .transferHold .slips, .queued, []⟩,
    ⟨3, .transferHold .slips, .queued, []⟩, ⟨4, .transferHold .slips, .queued, []⟩], nextNum := 5 }

/-- The rig with a job of 125 intervals in slot 4: no pool record is free. -/
def poolTaken : State := rig.putJob 4 (some { jobIn .settled [] with
  holeDepth := 118, map := (List.range 118).map fun n => ⟨n, n + 1, 0, 1, 100, 0, 0, 0, false, none⟩ })

/-- The 200 rods of a full table, one in each slot. -/
def fullTable : State := rig.setRod { rig.rod with
  rods := (List.range 200).map fun n => rodAt (n + 1) (.rack (n + 1)), members := [] }

/-- A frame of the given header and slot values. -/
def frame (header a b pit hook stick rot dens : Nat) : BitVec 120 :=
  BitVec.ofNat 120 ((((((((header * 65536 + a) * 65536 + b) * 65536 + pit) * 65536 + hook) * 65536 + stick) * 65536 +
    rot) * 65536) + dens)

/-! ## The worked examples of spec/ -/

/-- A(445), A(311), A(216) and the steel areas of the first worked example of Circulation Volumes (R89). -/
theorem test_areas : area 445 = 155528 ∧ area 311 = 75964 ∧ area 216 = 36643 ∧ area 165 - area 92 = 14735 ∧
    area 114 - area 97 = 2818 := by decide +kernel

/-- The string of that example: two collars and twenty rods. -/
def exampleString : List Member :=
  [⟨1, 6000, 165, 92⟩, ⟨2, 6000, 165, 92⟩] ++ (List.range 20).map fun n => ⟨n + 3, 6000, 114, 97⟩

/-- The three volumes of that example (R92 to R94), with the bit at 130,500. -/
theorem test_volumes : annularVolume ⟨1, exampleString, 130500, outline map3, 132500⟩ = 7809456 ∧
    holeVolume (outline map3) = 9348855 ∧ steelVolume 130500 exampleString = 510753 := by decide +kernel

/-- The hook load example of The Rod Inventory (R11): 34,160 with the density of MUD CHECK, 33,557 with the hub's. -/
def heavyString : State := rig.setRod { rig.rod with
  rods := [collarAt 1 (.string 1), collarAt 2 (.string 2)] ++ (List.range 20).map fun n => rodAt (n + 3) (.string (n + 3))
  members := List.range' 1 22 }

theorem test_hook_load : heavyString.expectedHookLoad = 33557 ∧
    (heavyString.setHub { rig.hub with density := gone 1200 }).expectedHookLoad = 34160 := by decide +kernel

/-- The outcome of a command, for a look at one field. -/
def after (o : Host.Outcome State Fault Refusal) : State :=
  match o with
  | .next t => t
  | .fault _ => State.reset
  | .refused _ => State.reset

/-- The intervals of slot 1 after a command. -/
def mapAfter (i : Instr) (s : State) : List Interval := (((after (exec i s)).job.jobs.get 1).map (·.map)).getD []

/-- The split of the bore map's worked example at 60,000 (R41). -/
theorem test_split : ((mapAfter (.splitInterval (be 1 1 ++ be 4 60000)) rig).drop 1).take 2 =
    [⟨12000, 60000, 6, 3, 311, 19206, 1446153, 0, false, none⟩,
     ⟨60000, 90000, 6, 3, 311, 12004, 903847, 0, false, some ⟨71400, none, some 35⟩⟩] := by decide +kernel

/-- The first ream of that example (R43), after its split. -/
theorem test_ream : ((mapAfter (.setDiameterRange (be 1 1 ++ be 4 40000 ++ be 4 60000 ++ be 2 375))
    (after (exec (.splitInterval (be 1 1 ++ be 4 60000)) rig))).drop 1).take 2 =
    [⟨12000, 40000, 6, 3, 311, 11203, 843589, 0, false, none⟩,
     ⟨40000, 60000, 6, 3, 375, 8003, 602564, 0, false, none⟩] := by decide +kernel

/-- Its merge (R42): the totals of both parts of a split come back. -/
theorem test_merge : mapAfter (.mergeIntervals (be 1 1 ++ be 4 60000))
    (after (exec (.splitInterval (be 1 1 ++ be 4 60000)) rig)) = map3 := by decide +kernel

/-- The ten lines of the pricing example, by index, quantity and amount (R168 to R173). -/
theorem test_pricing : (priceLines basaltRates (jobIn .complete [])).map (fun l => (l.index, l.qty, l.amount)) =
    [(some 0, 50000, 225000), (some 1, 40000, 208000), (some 2, 42500, 374000), (some 3, 352, 633600),
     (some 4, 60, 72000), (some 5, 100, 65000), (some 6, 48, 45600), (some 7, 3562, 89050), (some 8, 1, 150000),
     (none, 1, 0)] := by decide +kernel

/-- Frames 1, 2, 28 and 30 of the hub line's worked example (R54, R56). -/
theorem test_stroke_slots :
    (⟨some 65530, .pumping, 7, 0⟩ : PumpLine).take (some 65533) false = (⟨some 65533, .pumping, 0, 0⟩, 3) ∧
    (⟨some 65533, .pumping, 7, 0⟩ : PumpLine).take (some 1) false = (⟨some 1, .pumping, 0, 0⟩, 4) ∧
    (⟨none, .unknown, 0, 0⟩ : PumpLine).take (some 30) false = (⟨some 30, .unknown, 0, 0⟩, 0) ∧
    (⟨some 31, .pumping, 7, 0⟩ : PumpLine).take (some 900) false = (⟨some 900, .pumping, 7, 1⟩, 0) := by decide +kernel

/-- The frame header 0xFB: good, every slot valid but slot 5 (R203). -/
theorem test_frame_header : slotOf (frame 0xFB 1 2 3 4 5 6 7) 4 = some 4 ∧ slotOf (frame 0xFB 1 2 3 4 5 6 7) 5 = none ∧
    slotOf (frame 0xFB 1 2 3 4 5 6 7) 7 = some 7 ∧ slotOf (frame 0x7F 1 2 3 4 5 6 7) 1 = none := by decide +kernel

/-- The exchanges at 0.0 and 20.0 ms of the port's worked example: a PRICE JOB is accepted, a stray byte is LONG (R180,
R183). -/
theorem test_exchange_ends :
    (after (exec (.exchangeEnd [0x84, 1, 2] 0) (after (exec .exchangeBegin rig)))).port.engine = .accepted 0x84 [2] 0 ∧
    (after (exec (.exchangeEnd [0x30, 0, 0] 0) (after (exec .exchangeBegin rig)))).port.lastKind = .long := by
  decide +kernel

/-- A READ CIRCULATION that an exchange has accepted. -/
def readByExchange : State := after (exec (.exchangeEnd [0x51, 0] 0) (after (exec .exchangeBegin rig)))

/-- The survey starts at the acceptance (05, second worked example: accepted, survey starts), the row after it changes
nothing of it, and the reply comes with the survey's completion, with the row or without. -/
theorem test_accepted_read_circulation :
    readByExchange.circ.survey = some ⟨rig.surveyInputs, true, false, 0, 0⟩ ∧
    (after (exec (.readCirculation []) readByExchange)).circ.survey = readByExchange.circ.survey ∧
    (after (exec .surveyComplete readByExchange)).port.held.code = .done ∧
    (after (exec .surveyComplete readByExchange)).port =
      (after (exec .surveyComplete (after (exec (.readCirculation []) readByExchange)))).port ∧
    (after (exec (.exchangeEnd [0x51, 1, 0] 0) (after (exec .exchangeBegin rig)))).port.held.code = .outOfRange := by
  decide +kernel

/-- The wear of the connection example (R9): the rod and the member below gain 2,000 milli-units. -/
theorem test_joint_wear :
    let t := after (exec .wrenchDoneRise ((rigWith [⟨7, .addRod 3, .joining, [.lifting]⟩]
      { rig.handler with headNote := some ⟨7, .addRod, some 3⟩ }).setRod { rig.rod with
        rods := [rodAt 1 (.string 1), rodAt 2 (.string 2), { rodAt 3 .inTransfer with reservation := some 7 }] }))
    (t.rod.find 3).map (·.wearMilli) = some 5002000 ∧ (t.rod.find 2).map (·.wearMilli) = some 5002000 ∧
      (t.rod.find 1).map (·.wearMilli) = some 5000000 := by decide +kernel

/-! ## The hypotheses of the statements are met: the machine -/

/-- A rig with commands waiting. -/
def queued (i : Instr) (s : State) : State := s.setPending [i]

theorem hyps_StepTakesFrontCommand :
    (queued .secondMark rig).pending = .secondMark :: [] ∧ (queued .secondMark rig).running = true := by decide +kernel

theorem hyps_EmptyQueueIsOneMillisecond : rig.pending = [] ∧ rig.running = true ∧
    (after (exec .mainPowerLoss rig)).pending = [] ∧ (after (exec .mainPowerLoss rig)).running = false := by
  decide +kernel

/-- Every invariant holds of the rig with a command waiting that changes the state, so each preservation statement
speaks of a step that answers a next state from a state in which the invariant excludes something. -/
theorem hyps_invariants : PermitsOk rig ∧ MapsOk rig ∧ PoolOk rig ∧ ActiveOk rig ∧ ConfigOk rig ∧ ReplyOk rig ∧
    SweepOk (rig.setSweep ⟨7, true, true, some ⟨1, none, none⟩, none⟩) := by
  refine ⟨?_, ?_, ?_, ?_, ?_, ?_, ?_⟩ <;> decide +kernel

theorem hyps_PermitsStaySafe : PermitsOk (queued .allstopFall rig) ∧ LocationsOk (queued .allstopFall rig) ∧
    ∃ t, step (queued .allstopFall rig) = .next t := ⟨by decide +kernel, by decide +kernel, _, rfl⟩

theorem hyps_MapsStayCovering : MapsOk (queued (.splitInterval (be 1 1 ++ be 4 60000)) rig) ∧
    ∃ t, step (queued (.splitInterval (be 1 1 ++ be 4 60000)) rig) = .next t := ⟨by decide +kernel, _, rfl⟩

theorem hyps_PoolAndActiveJobStayBounded :
    (PoolOk (queued (.newFormation [1, 1]) rig) ∧ ∃ t, step (queued (.newFormation [1, 1]) rig) = .next t) ∧
    (ActiveOk (queued (.pullRod (be 1 9)) rig) ∧ LocationsOk (queued (.pullRod (be 1 9)) rig) ∧ rig.rod.members ≠ [] ∧
      ∃ t, step (queued (.pullRod (be 1 9)) rig) = .next t) :=
  ⟨⟨by decide +kernel, _, rfl⟩, by decide +kernel, by decide +kernel, by decide +kernel, _, rfl⟩

theorem hyps_ItemsSweepAndReplyStayWellFormed :
    (ConfigOk (queued (.setConfig (be 1 60 ++ be 4 0)) rig) ∧
      ∃ t, step (queued (.setConfig (be 1 60 ++ be 4 0)) rig) = .next t) ∧
    (let s := queued (.waiveSweep []) (rig.setSweep ⟨7, true, true, some ⟨1, none, none⟩, none⟩)
     SweepOk s ∧ ∃ t, step s = .next t) ∧
    (ReplyOk (queued (.readHandler []) rig) ∧ ∃ t, step (queued (.readHandler []) rig) = .next t) :=
  ⟨⟨by decide +kernel, _, rfl⟩, ⟨by decide +kernel, _, rfl⟩, by decide +kernel, _, rfl⟩

theorem hyps_SteelStaysInOnePlace : LocationsOk (queued (.addRod (be 2 3)) rig) ∧
    ∃ t, step (queued (.addRod (be 2 3)) rig) = .next t := ⟨by decide +kernel, _, rfl⟩

theorem hyps_RatesChangeUnderKeyswitchOnly : rig.pricing.rates.length = 32 ∧
    (after (step (queued (.retireRate true [7]) rig))).pricing.rates ≠ rig.pricing.rates ∧
    (∃ t, step (queued (.retireRate true [7]) rig) = .next t) := ⟨by decide +kernel, by decide +kernel, _, rfl⟩

/-! ## The port, attention and the configuration store -/

/-- The bounds of every field, met in ArgumentsAreReadBack: the least and the greatest value of a range. -/
theorem hyps_ArgumentsAreReadBack :
    (1 ≤ 65534 ∧ (65534 : Nat) ≤ 65534 ∧ 1000 ≤ 9600 ∧ (290 : Nat) + 10 ≤ 300 ∧ (3000 : Nat) ≤ 3000) ∧
    decodeEnterRod (be 2 65534 ++ be 1 2 ++ be 2 9600 ++ be 2 300 ++ be 2 290 ++ be 2 3000 ++ be 2 65535 ++
      be 2 65000 ++ be 1 200) =
      some (⟨65534, .sub, 9600, 300, 290, 3000, 65535000, 65000, .rack 200, none⟩, 200) ∧
    decodeEnterRod (be 2 1 ++ be 1 2 ++ be 2 9600 ++ be 2 300 ++ be 2 291 ++ be 2 3000 ++ be 2 0 ++ be 2 1 ++ be 1 1) =
      none ∧
    (isText (List.replicate 16 0x7E) = true ∧ (List.replicate 16 (0x7E : Byte)).length = 16) ∧
    decodeRecordStrike (be 1 4 ++ be 4 1500000 ++ [1, 0xFF, 0xFF, 0x8A, 0xD0] ++ opt 2 none) =
      some (4, ⟨1500000, some (-30000), none⟩) ∧
    decodeResolveRod (be 2 65534 ++ be 1 0 ++ be 1 201) = none ∧ decodeResolveRod (be 2 65534 ++ be 1 1 ++ be 1 1) = none ∧
    decodeLookUpInterval (be 1 4 ++ be 1 0 ++ be 4 1500001) = none ∧
    decodeLookUpInterval (be 1 4 ++ be 1 1 ++ be 4 4294967295) = some (4, .byOrdinal 4294967295) := by decide +kernel

/-- Both sides of ArgumentsAreChecked are met: bytes at the bounds of a field that pass, and ones beyond that do not. -/
theorem hyps_ArgumentsAreChecked :
    argsDecode (.lookUpRod (be 2 65534)) = true ∧ argsDecode (.lookUpRod (be 2 65535)) = false ∧
    argsDecode (.amendInterval (be 1 4 ++ be 4 1500000 ++ [1, 11] ++ [0, 255] ++ [1, 0x03, 0x84])) = true ∧
    argsDecode (.amendInterval (be 1 4 ++ be 4 1500000 ++ [1, 11] ++ [2, 1] ++ [1, 0x03, 0x84])) = false ∧
    argsDecode (.recordStrike (be 1 1 ++ be 4 0 ++ [1, 0xFF, 0xFF, 0x8A, 0xCF] ++ opt 2 none)) = false ∧
    argsDecode (.readString []) = true ∧ argsDecode (.readString [0]) = false := by decide +kernel

theorem hyps_RequestsNotCarriedOut :
    (rig.accepts (.splitInterval []) = true ∧ argsDecode (.splitInterval []) = false) ∧
    (let busy := rig.setPort { rig.port with engine := .accepted 0x30 [] 0, discards := 255 }
     (Instr.readString []).wellFormed = true ∧ (codeOf (.readString [])).isSome = true ∧ busy.running = true ∧
       busy.accepts (.readString []) = false) ∧
    ((Instr.readString []).wellFormed = true ∧ (after (exec .resetEntry rig)).running = false) ∧
    ((0x4F : Byte) ≠ 0 ∧ (0x4F : Byte) ∉ requestCodes ∧ rig.takes 0x4F [] = true) ∧
    (0x87 : Byte) ∈ requestCodes := by decide +kernel

theorem hyps_ExchangeBeginTakesSnapshot :
    (rig.running = true ∧ rig.port.exchange = .none) ∧
    (rig.setPort { rig.port with exchange := .ignored }).port.exchange ≠ .none ∧
    rig.isPending .unpriced = true ∧ rig.config.isMasked .unpriced = false := by decide +kernel

/-- The rig with a survey that the port waits for, or a sweep, or both. -/
def surveying (port sweep : Bool) (progress : Nat) : State :=
  ((rig.setCirc { rig.circ with survey := some ⟨rig.surveyInputs, port, sweep, 0, 0⟩ }).setSweep
    ⟨0, true, false, some ⟨progress, none, none⟩, none⟩).setPort
    { rig.port with engine := if port then .surveying else .idle }

theorem hyps_ExchangeEndClassifiesBytes : rig.running = true ∧ rig.port.exchange = .none ∧
    (rig.setPort { rig.port with exchange := .ignored }).port.exchange = .ignored ∧
    (∃ summary r, (after (exec .exchangeBegin rig)).port.exchange = .open summary r) ∧
    (rig.port.engine = .idle ∧ rig.summary.toNat / 64 % 2 = 0 ∧ rig.circ.survey = none ∧
      (surveying false true 0).port.engine = .idle ∧ (surveying false true 0).circ.survey.isSome = true) ∧
    (62 < (0x3F : Byte).toNat ∧ (0x3E : Byte).toNat ≤ 62 ∧ ([] : List Byte).length < (1 : Byte).toNat ∧
      (0 : Byte).toNat < [(0 : Byte)].length ∧ [(0 : Byte)].length = (1 : Byte).toNat) :=
  ⟨by decide +kernel, by decide +kernel, by decide +kernel, ⟨_, _, rfl⟩, by decide +kernel, by decide +kernel⟩

theorem hyps_ReadersThatClearOrSample : rig.accepts (.readAttention []) = true ∧ rig.accepts (.readHandler []) = true ∧
    rig.accepts (.readLive true false true []) = true := by decide +kernel

theorem hyps_FaultsClear :
    (rig.accepts (.clearFaults []) = true ∧ rig.handler.anyFault = false) ∧
    (let s := rig.setHandler { rig.handler with holdFault := true }
     s.accepts (.clearFaults []) = true ∧ s.handler.anyFault = true ∧ s.handler.carrier = some .slips) ∧
    rig.running = true ∧ (1 ≤ (199 : Nat) ∧ (199 : Nat) < 200) := by decide +kernel

theorem hyps_RecordsAndReportsAreRead :
    (rig.accepts (.lookUpRod (be 2 3)) = true ∧ rig.rod.find 65534 = none ∧ (rig.rod.find 3).isSome = true) ∧
    (rig.accepts (.lookUpRate (be 1 31)) = true ∧ rig.pricing.entry 31 = none ∧ (rig.pricing.entry 0).isSome = true) ∧
    (rig.accepts (.readConfig (be 1 10)) = true ∧ rig.config.item 255 = none ∧ (rig.config.item 10).isSome = true) ∧
    ([] : List Byte).length ≠ 1 ∧ rig.accepts (.readConfig []) = true ∧
    rig.accepts (.listString (be 1 200)) = true ∧ rig.accepts (.readString []) = true ∧
    (rig.accepts (.lookUpInterval (be 1 1 ++ be 1 0 ++ be 4 1500000)) = true ∧ rig.job.jobs.get 4 = none ∧
      (jobIn .active []).mapOk ∧ rig.job.jobs.get 1 = some (jobIn .active [])) ∧
    (rig.accepts (.lookUpInterval (be 1 1 ++ be 1 1 ++ be 4 3)) = true ∧ (jobIn .active []).map.length < 4 ∧
      (jobIn .active []).map[3 - 1]?.isSome = true) ∧
    rig.accepts (.readBalance (be 1 0)) = true ∧ rig.accepts (.readBalance (be 1 1)) = true ∧
    rig.accepts (.readSweep []) = true := by decide +kernel

theorem hyps_ConfigItemIsWritten :
    rig.accepts (.setConfig (be 1 60 ++ be 4 4294967295)) = true ∧ rig.config.item 255 = none ∧
    (∃ i, rig.config.item 60 = some i ∧ i.hi < 4294967295 ∧ i.value ≠ i.hi) ∧
    (∃ i, rig.config.item 101 = some i ∧ i.value = 0) ∧ rig.config.item 119 ≠ none := by
  refine ⟨by decide +kernel, by decide +kernel, ⟨_, rfl, ?_, ?_⟩, ⟨_, rfl, ?_⟩, ?_⟩ <;> decide +kernel

/-- Every item that acts at its write takes a value other than its own; a timer at its new limit and one below it, for
each kind of timer that a write may end. -/
theorem hyps_ItemWritesAct :
    (∀ n ∈ [30, 31, 40, 41, 42, 43, 44, 61, 65, 66, 70, 72, 80, 81, 82], ∃ i ∈ rig.config.item n, i.lo ≠ i.value ∧
      rig.accepts (.setConfig (be 1 n ++ be 4 i.lo)) = true) ∧
    (let l : PumpLine := ⟨some 10, .pumping, 500, 0⟩
     l.state = .pumping ∧ 500 ≤ l.timerMs ∧ ¬501 ≤ l.timerMs) ∧
    (rig.rotating = .no ∧ (rig.setHub { rig.hub with rotary := fresh 4 }).hub.rotary.invalid < 25 ∧
      rig.handler.queue = []) ∧
    (rig.handler.run .slips = some 5000 ∧ 100 ≤ 5000 ∧ rig.handler.transfer = none) ∧
    (∀ r ∈ (rig.setHandler { rig.handler with transfer := some ⟨.elevator, some 99⟩ }).handler.transfer, ∀ m ∈ r.runMs,
      m < 100) ∧
    (Stage.working .racking = true ∧ rig.handler.pastWaiting = false ∧ 5 * 1000 ≤ (5000 : Nat) ∧ ¬(4999 : Nat) ≥ 5 * 1000) ∧
    (rig.handler.determinationMs = none ∧ rig.handler.blankingMs = none) ∧
    (let s := rig.setCirc { rig.circ with settleMs := 59999 }
     s.circ.settleMs < s.config.settleTime * 1000 ∧ 59 * 1000 ≤ s.circ.settleMs) ∧
    (let s := (rig.setSweep ⟨17000, false, false, none, none⟩).setHub { rig.hub with pumpA := ⟨some 10, .pumping, 3, 0⟩ }
     1 ≤ s.sweep.counter / 17000 ∧ s.anyPumping = true ∧ s.handler.pastWaiting = false ∧ s.job.activity ≠ .drilling ∧
       s.sweep.current = none ∧ s.sweep.owed = false) ∧
    (let r : SweepRun := ⟨5, none, some 3000⟩
     r.holdMs = some 3000 ∧ 3 * 1000 ≤ 3000 ∧ 3000 < 4 * 1000) ∧
    rig.job.activity = .idle ∧ (rig.setJob { rig.job with activity := .standby }).job.activity = .standby := by
  decide +kernel

/-! ## Rods -/

/-- The arguments of an ENTER ROD of a tag into a slot. -/
def enterArgs (tag slot : Nat) : List Byte :=
  be 2 tag ++ be 1 0 ++ be 2 6000 ++ be 2 114 ++ be 2 97 ++ be 2 220 ++ be 2 0 ++ be 2 40000 ++ be 1 slot

theorem hyps_EnterRodCreatesRecord :
    (decodeEnterRod (enterArgs 9 9) = some ({ rodAt 9 (.rack 9) with wearMilli := 0 }, 9) ∧
      rig.accepts (.enterRod (enterArgs 9 9)) = true ∧ rig.rod.rods.length < 200 ∧ rig.rod.find 9 = none ∧
      rig.rod.occupant 9 = none ∧ rig.rod.slotReservation 9 = none) ∧
    (200 ≤ fullTable.rod.rods.length ∧ fullTable.accepts (.enterRod (enterArgs 201 1)) = true) ∧
    (rig.rod.find 3).isSome = true ∧
    ((rig.rod.occupant 5).isSome = true ∧ (oneMember.rod.slotReservation 9).isSome = true) := by decide +kernel

/-- The arguments of an AMEND ROD of a tag: a new OD and ID, or a new limit alone. -/
def amendArgs (tag od id : Nat) : List Byte :=
  be 2 tag ++ opt 2 none ++ opt 2 (some od) ++ opt 2 (some id) ++ opt 2 none ++ opt 2 none ++ opt 2 none
def limitArgs (tag : Nat) : List Byte :=
  be 2 tag ++ opt 2 none ++ opt 2 none ++ opt 2 none ++ opt 2 none ++ opt 2 none ++ opt 2 (some 65000)

theorem hyps_AmendRodWritesPresentFields :
    (rig.accepts (.amendRod (amendArgs 5 300 290)) = true ∧
      decodeAmendRod (amendArgs 5 300 290) = some ⟨5, none, some 300, some 290, none, none, none⟩ ∧
      rig.rod.find 5 = some (rodAt 5 .quarantine) ∧ (290 : Nat) + 10 ≤ 300) ∧
    decodeAmendRod (amendArgs 5 299 290) = some ⟨5, none, some 299, some 290, none, none, none⟩ ∧
    decodeAmendRod (limitArgs 3) = some ⟨3, none, none, none, none, none, some 65000⟩ ∧
    (rig.rod.find 3 = some (rodAt 3 (.rack 5)) ∧ (rodAt 3 (.rack 5)).location ≠ .quarantine) ∧
    (((rig.rod.reserveRod 3 7).find 3).bind (·.reservation)) = some 7 ∧ rig.rod.find 65534 = none := by decide +kernel

theorem hyps_RackRodsAreMoved :
    LocationsOk rig ∧
    (rig.accepts (.quarantineRod (be 2 3)) = true ∧ rig.rod.find 3 = some (rodAt 3 (.rack 5)) ∧
      rig.rod.find 65534 = none ∧ ((rig.rod.reserveRod 3 7).find 3).bind (·.reservation) ≠ none) ∧
    (rig.accepts (.retireRod (be 2 5)) = true ∧ rig.rod.find 5 = some (rodAt 5 .quarantine)) ∧
    (rig.accepts (.returnRod (be 2 5 ++ be 1 200)) = true ∧ rig.rod.occupant 200 = none ∧
      rig.rod.slotReservation 200 = none ∧ (rig.rod.occupant 5).isSome = true) ∧
    (∀ n, (rodAt 6 .uncertain).location ≠ .rack n) ∧ rig.rod.find 6 = some (rodAt 6 .uncertain) :=
  ⟨by decide +kernel, by decide +kernel, by decide +kernel, by decide +kernel, nofun, by decide +kernel⟩

theorem hyps_ResolveRodPlacesRod :
    (rig.accepts (.resolveRod (be 2 6 ++ be 1 0 ++ be 1 200)) = true ∧
      rig.accepts (.resolveRod (be 2 6 ++ be 1 1 ++ be 1 0)) = true ∧
      rig.accepts (.resolveRod (be 2 6 ++ be 1 2 ++ be 1 0)) = true) ∧
    (rig.rod.find 6 = some (rodAt 6 .uncertain) ∧ rig.handler.pastWaiting = false ∧ rig.rod.find 65534 = none ∧
      (rodAt 6 .uncertain).status = .inService ∧ (jobIn .active []).state = .active ∧ rig.activeJob.isSome = true ∧
      noActive.activeJob = none ∧ rig.rod.members.length < 200) ∧
    (rig.rod.occupant 200 = none ∧ rig.rod.slotReservation 200 = none ∧ (rig.rod.occupant 6).isSome = true) ∧
    (rig.rod.find 3 = some (rodAt 3 (.rack 5)) ∧ ((rig.rod.reserveRod 3 7).find 3).bind (·.reservation) ≠ none ∧
      ((rig.rod.find 4).map (·.status)) = some .worn ∧ (rig.rod.find 4).map (·.racked) = some true) ∧
    200 ≤ (rig.setRod { rig.rod with members := List.range' 301 200 }).rod.members.length ∧
    (LocationsOk emptyHole ∧ emptyHole.rod.members = [] ∧ emptyHole.rod.find 6 = some (rodAt 6 .uncertain)) ∧
    (rigWith [⟨7, .pullRod 9, .unjoining, [.racking]⟩] rig.handler).handler.pastWaiting = true ∧
    (rig.setHub { rig.hub with stickUp := gone 0 }).hub.stickUp.stale = true := by
  refine ⟨?_, ?_, ?_, ?_, ?_, ?_, ?_, ?_⟩ <;> decide +kernel

/-! ## The bore map -/

/-- The job of slot 1 with a zero-length deepest interval. -/
def zeroEnd : Job := { jobIn .active [] with
  map := map3 ++ [⟨132500, 132500, 0, 1, 216, 0, 0, 0, false, none⟩] }

theorem hyps_NewFormationAndBit :
    (rig.accepts (.newFormation (be 1 11 ++ be 1 8)) = true ∧ noActive.activeJob = none ∧
      noActive.accepts (.newFormation (be 1 11 ++ be 1 8)) = true) ∧
    ((rig.putJob 1 (some zeroEnd)).activeJob = some (1, zeroEnd) ∧ zeroEnd.mapOk) ∧
    (rig.activeJob = some (1, jobIn .active []) ∧ (jobIn .active []).mapOk ∧ 0 < rig.poolFree ∧
      (jobIn .active []).map = map3.take 2 ++ [⟨90000, 132500, 6, 6, 216, 52880, 1211500, 0, false, none⟩]) ∧
    (poolTaken.poolFree ≤ 1 ∧ PoolOk poolTaken) ∧
    (rig.accepts (.changeBit (be 2 900)) = true ∧ rig.activeJob ≠ none ∧ rig.rod.members ≠ [] ∧
      emptyHole.activeJob = some (1, jobIn .active []) ∧ emptyHole.rod.members = []) := by decide +kernel

/-- Every record of the pool is taken. -/
def poolEmpty : State := rig.putJob 4 (some { jobIn .settled [] with
  holeDepth := 119, map := (List.range 119).map fun n => ⟨n, n + 1, 0, 1, 100, 0, 0, 0, false, none⟩ })

theorem hyps_poolEmpty : poolEmpty.poolFree = 0 ∧ PoolOk poolEmpty ∧ MapsOk poolEmpty ∧ poolEmpty.activeJob.isSome = true ∧
    poolEmpty.accepts (.splitInterval (be 1 1 ++ be 4 60000)) = true := by decide +kernel

/-- The checks of a map edit: a free slot, and a PRICED job's. -/
theorem hyps_EditChecks : rig.job.jobs.get 4 = none ∧ (rig.job.jobs.get 3).map (·.state) = some .priced := by
  decide +kernel

theorem hyps_OneIntervalIsEdited :
    (let a := be 1 1 ++ be 4 1500000 ++ opt 1 (some 11) ++ opt 1 (some 8) ++ opt 2 (some 900)
     rig.accepts (.amendInterval a) = true ∧ decodeAmendInterval a = some ⟨1, 1500000, some 11, some 8, some 900⟩ ∧
       intervalAt 1500000 map3 = some (3, ⟨90000, 132500, 6, 6, 216, 52880, 1211500, 0, false, none⟩)) ∧
    (let a (d : Nat) := be 1 1 ++ be 4 d ++ optInt 4 none ++ opt 2 none
     rig.accepts (.recordStrike (a 132499)) = true ∧ decodeRecordStrike (a 132499) = some (1, ⟨132499, none, none⟩) ∧
       decodeRecordStrike (a 132500) = some (1, ⟨132500, none, none⟩) ∧
       decodeRecordStrike (a 12000) = some (1, ⟨12000, none, none⟩) ∧
       (intervalAt 12000 map3).map (·.2.strike.isSome) = some true) ∧
    (rig.accepts (.clearStrike (be 1 1 ++ be 4 12000)) = true ∧
      decodeSlotDepth (be 1 1 ++ be 4 12000) = some (1, 12000) ∧
      (intervalAt 11999 map3).map (·.2.strike.isSome) = some false) ∧
    (rig.job.jobs.get 1 = some (jobIn .active []) ∧ (jobIn .active []).mapOk ∧ (jobIn .complete []).mapOk) := by
  decide +kernel

theorem hyps_SplitIntervalApportions :
    rig.accepts (.splitInterval (be 1 1 ++ be 4 12001)) = true ∧ (jobIn .active []).mapOk ∧ 0 < rig.poolFree ∧
    rig.job.jobs.get 1 = some (jobIn .active []) ∧
    (∃ pre i post, map3 = pre ++ i :: post ∧ i.top < 12001 ∧ 12001 < i.bottom) ∧
    (∀ i ∈ map3, ¬(i.top < 12000 ∧ 12000 < i.bottom)) :=
  ⟨by decide +kernel, by decide +kernel, by decide +kernel, by decide +kernel,
    ⟨map3.take 1, _, _, rfl, by decide +kernel, by decide +kernel⟩, by decide +kernel⟩

/-- A map of equal diameters, with a strike in each of two intervals. -/
def mergeMap : List Interval :=
  [⟨0, 10, 1, 1, 100, 4294967295, 5, 0, false, none⟩, ⟨10, 20, 2, 2, 100, 4294967295, 5, 0, true, some ⟨19, none, none⟩⟩,
   ⟨20, 30, 2, 2, 100, 0, 0, 0, false, some ⟨20, none, none⟩⟩, ⟨30, 30, 2, 2, 101, 0, 0, 0, false, none⟩]

theorem hyps_MergeIntervalsJoins :
    (let j := { jobIn .complete [] with holeDepth := 30, map := mergeMap }
     let s := rig.putJob 2 (some j)
     j.mapOk ∧ s.job.jobs.get 2 = some j ∧ s.accepts (.mergeIntervals (be 1 2 ++ be 4 30)) = true) ∧
    mergeMap.map (·.diameter) = [100, 100, 100, 101] ∧ mergeMap.map (·.strike.isSome) = [false, true, true, false] ∧
    mergeMap.map (·.top) = [0, 10, 20, 30] ∧ (∀ i ∈ mergeMap.drop 1, i.top ≠ 0) := by decide +kernel

theorem hyps_DiameterRangeIsRecorded :
    (let a (lo hi : Nat) := be 1 1 ++ be 4 lo ++ be 4 hi ++ be 2 900
     rig.accepts (.setDiameterRange (a 0 132500)) = true ∧
       decodeSetDiameterRange (a 0 132500) = some ⟨1, 0, 132500, 900⟩ ∧
       decodeSetDiameterRange (a 1 132499) = some ⟨1, 1, 132499, 900⟩ ∧
       decodeSetDiameterRange (a 0 132501) = some ⟨1, 0, 132501, 900⟩) ∧
    (jobIn .active []).mapOk ∧ rig.job.jobs.get 1 = some (jobIn .active []) ∧ 2 ≤ rig.poolFree ∧
    poolTaken.poolFree < 2 ∧ poolTaken.job.jobs.get 1 = some (jobIn .active []) := by decide +kernel

/-! ## The hub line -/

/-- The rig with a frame in progress. -/
def inFrame : State := rig.setHub { rig.hub with frameOpen := true }

/-- A state with a sweep owed, and one in progress or none. -/
def oweing (r : Option SweepRun) (s : State) : State := s.setSweep ⟨0, true, false, r, none⟩

theorem hyps_FrameArrivalFillsTable : rig.running = true ∧ rig.circ.pumpA.strokes < 4294967296 ∧
    rig.circ.pumpB.strokes < 4294967296 ∧ rig.circ.pumpA.volume ≤ 281474976710655 ∧
    rig.circ.pumpB.volume ≤ 281474976710655 ∧ rig.hub.frameOpen = false ∧ inFrame.hub.frameOpen = true ∧
    (let f := frame 0xFF 65535 0 4000 60000 20000 1000 2400
     [1, 2, 3, 4, 5, 6, 7].map (slotOf f) = [65535, 0, 4000, 60000, 20000, 1000, 2400].map some) ∧
    slotOf (frame 0xFF 0 0 0 0 0 0 1000) 7 = some 1000 ∧
    ((slotOf (frame 0x80 0 0 0 0 0 0 0) 1).isNone = true ∧
      24 ≤ (inFrame.setHub { inFrame.hub with strokesA := ⟨10, 24⟩ }).hub.strokesA.invalid) ∧
    (slotOf (frame 0xFB 60 10 0 0 0 0 1000) 5 = none ∧ (inFrame.hub.pumpA.take (some 60) false).2 = 50 ∧
      (oweing none inFrame).sweep.current = none ∧ (oweing none inFrame).sweep.owed = true ∧
      (oweing none inFrame).handler.pastWaiting = false ∧ inFrame.job.activity ≠ .drilling ∧
      (after (exec (.frameArrival (frame 0xFB 60 10 1000 300 0 0 1200)) (oweing none inFrame))).job.activity ≠ .drilling) ∧
    ((oweing (some ⟨7, none, some 9⟩) inFrame).sweep.current = some ⟨7, none, some 9⟩) := by decide +kernel

/-- A value at a bound of its slot's range is stored as it is, one beyond it at the bound (R51). -/
theorem test_frame_bounds :
    (let h := (after (exec (.frameArrival (frame 0xFF 10 10 4000 60000 20000 1000 2400)) inFrame)).hub
     [h.pitLevel, h.hookLoad, h.stickUp, h.rotary, h.density] = [⟨4000, 0⟩, ⟨60000, 0⟩, ⟨20000, 0⟩, ⟨1000, 0⟩, ⟨2400, 0⟩]) ∧
    (let h := (after (exec (.frameArrival (frame 0xFF 10 10 4001 60001 20001 1001 2401)) inFrame)).hub
     [h.pitLevel, h.hookLoad, h.stickUp, h.rotary, h.density] = [⟨4000, 0⟩, ⟨60000, 0⟩, ⟨20000, 0⟩, ⟨1000, 0⟩, ⟨2400, 0⟩]) ∧
    (after (exec (.frameArrival (frame 0xFF 10 10 0 0 0 0 999)) inFrame)).hub.density = ⟨1000, 0⟩ := by decide +kernel

theorem hyps_StrokesAreCounted :
    (let l : PumpLine := ⟨some 65535, .unknown, 3, 65535⟩
     l.ref = some 65535 ∧ 49 = (65535 + 50) % 65536 ∧ 50 = (65535 + 51) % 65536 ∧
       65534 = (65535 + 65535) % 65536 ∧ PumpLine.start.ref = none) ∧
    (1 ≤ (50 : Nat) ∧ (50 : Nat) ≤ 50) ∧
    (let r : SweepRun := ⟨1170495000, some 11714184, none⟩
     (rig.setSweep ⟨0, true, false, some r, none⟩).sweep.current = some r ∧ r.target = some 11714184 ∧
       100 * 11714184 ≤ min (1170495000 + 1 * (rig.config.dispA * rig.config.effA)) 281474976710655) ∧
    (let s := oweing none (rig.setHub { rig.hub with pumpA := ⟨some 10, .pumping, 3, 0⟩ })
     s.sweep.current = none ∧ s.sweep.owed = true ∧ s.anyPumping = true ∧ s.handler.pastWaiting = false ∧
       s.job.activity ≠ .drilling) ∧
    rig.sweep.current = none ∧ rig.sweep.owed = false := by
  decide +kernel

theorem hyps_FrameStartsAndCutsShort : rig.running = true ∧ (Instr.frameStart = .frameStart ∧
    Instr.frameCutShort = .frameCutShort) ∧ rig.hub.frameOpen = false ∧ inFrame.hub.frameOpen = true ∧
    inFrame.running = true ∧ inFrame.handler.queue = [] ∧
    (let s := inFrame.setHub { inFrame.hub with strokesA := ⟨10, 24⟩, pumpA := ⟨some 10, .pumping, 3, 0⟩ }
     24 ≤ s.hub.strokesA.invalid ∧ (after (exec .frameCutShort s)).hub.pumpA.state ≠ s.hub.pumpA.state) := by
  decide +kernel

/-- The rig with pump A running and nothing waiting. -/
def pumpingRig : State := rig.setHub { rig.hub with pumpA := ⟨some 10, .pumping, 3, 0⟩ }

/-- The rig with both pumps running. -/
def bothPumping : State := pumpingRig.setHub { pumpingRig.hub with pumpB := ⟨some 10, .pumping, 3, 0⟩ }

/-- The cases of a sweep at a change of a pumping state: a pump still PUMPING, none left with and without a hold that
runs, a hold time of 0, and a sweep to be started. -/
theorem hyps_SweepFollowsPumps :
    (let s := oweing (some ⟨7, none, none⟩) bothPumping
     s.sweep.current = some ⟨7, none, none⟩ ∧ (after (exec (.strokeTimeout .a) s)).anyPumping = true) ∧
    (let s := oweing (some ⟨7, none, none⟩) pumpingRig
     (after (exec (.strokeTimeout .a) s)).anyPumping = false ∧ s.config.sweepHold ≠ 0 ∧
       (s.setConfig (s.config.write 72 0)).config.sweepHold = 0) ∧
    (let s := oweing (some ⟨7, none, some 3⟩) rig
     rig.hub.pumpA.state ≠ .unknown ∧ (after (exec .linkLoss s)).anyPumping = false) ∧
    (let s := oweing none bothPumping
     let t := after (exec (.strokeTimeout .a) s)
     s.sweep.current = none ∧ s.sweep.owed = true ∧ t.anyPumping = true ∧ s.handler.pastWaiting = false ∧
       s.job.activity ≠ .drilling ∧ t.job.activity ≠ .drilling) := by decide +kernel

/-- Pump A of the sweeps' worked example stops at the stroke timeout: the sweep is held, its progress kept (R134). -/
theorem test_hold_starts :
    (after (exec (.strokeTimeout .a) (oweing (some ⟨527250000, some 11714184, none⟩) pumpingRig))).sweep.current =
      some ⟨527250000, some 11714184, some 0⟩ := by decide +kernel

/-- The greatest progress is reported whole in READ SWEEP, in centi-mL and in mL (R127, R140, R200). -/
theorem test_sweep_progress_bytes :
    let b := readSweepBody (oweing (some ⟨281474976710655, none, none⟩) rig)
    b.length = 59 ∧ (b.drop 18).take 14 = [1, 0xFF, 0xFF, 0xFF, 0xFF, 0xFF, 0xFF, 1, 0x02, 0x8F, 0x5C, 0x28, 0xF5, 0xC2] := by
  decide +kernel

theorem hyps_LinkLossAndStrokeTimeout : rig.running = true ∧ rig.hub.linkUp = true ∧ State.reset.hub.linkUp = false ∧
    State.reset.running = true ∧ (rig.hub.pump .b).state ≠ .pumping ∧ (pumpingRig.hub.pump .a).state = .pumping ∧
    pumpingRig.running = true := by decide +kernel

/-- The rig rotating, pumping, with its frame in progress and a job whose hole is shallower than the string, the stick-up
of 1,500 mm putting the bit at 10,500 mm. The first member is one milli-unit short of its limit. -/
def drillTo (hole bit : Nat) (map : List Interval) : State :=
  (((inFrame.setHub { inFrame.hub with pumpA := ⟨some 10, .pumping, 3, 0⟩, rotary := fresh 60 }).putJob 1
    (some { jobIn .active [] with holeDepth := hole, bit := bit, map := map })).setRod { rig.rod with
      rods := [{ rodAt 1 (.string 1) with wearMilli := 39999999 }, rodAt 2 (.string 2)] }).setSweep
    ⟨17500, false, false, none, none⟩

/-- The frame of a stick-up of 1,500 mm alone. -/
def stickUpFrame : BitVec 120 := frame 0x84 0 0 0 0 1500 0 0

theorem hyps_StickUpDrivesTheHole :
    (let s := drillTo 10000 216 [⟨0, 10000, 6, 2, 445, 0, 0, 0, false, none⟩]
     s.running = true ∧ s.hub.frameOpen = true ∧ slotOf stickUpFrame 5 = some 1500 ∧ s.handler.queue = [] ∧
       s.rod.stringLength - min 1500 20000 = 10500 ∧ (s.setHub (s.hub.takeSlots (slotOf stickUpFrame))).rotating = .yes ∧
       (s.setHub (s.hub.takeSlots (slotOf stickUpFrame))).anyPumping = true ∧ (∃ j, s.activeJob = some (1, j) ∧ j.mapOk ∧
         j.bit ≠ 445 ∧ j.holeDepth < 10500 ∧ j.holeDepth < maxDepth) ∧ 0 < s.poolFree ∧
       (17500 + 500) / s.config.sweepSpacing = 1 ∧ 39999999 / 1000 < 40000 ∧ 40000 ≤ (39999999 + 500 * 2) / 1000 ∧
       (s.hub.pumpA.take (slotOf stickUpFrame 1) false).2 = 0 ∧
       (s.hub.pumpB.take (slotOf stickUpFrame 2) false).2 = 0) ∧
    (let s := poolTaken.putJob 2 (some { jobIn .complete [] with
       map := (List.range 5).map fun n => ⟨n, n + 1, 0, 1, 100, 0, 0, 0, false, none⟩ })
     s.poolFree = 0) ∧
    (∃ j, (drillTo 10499 216 [⟨0, 10499, 6, 2, 216, 0, 0, 0, false, none⟩,
        ⟨10499, 10499, 6, 2, 152, 0, 0, 0, false, none⟩]).activeJob = some (1, j) ∧ j.mapOk ∧ j.holeDepth < 10500) ∧
    (∃ j, (drillTo 10500 216 [⟨0, 10500, 6, 2, 216, 0, 0, 0, false, none⟩]).activeJob = some (1, j) ∧
      10500 ≤ j.holeDepth) ∧
    (inFrame.setHub (inFrame.hub.takeSlots (slotOf stickUpFrame))).rotating ≠ .yes ∧
    (noActive.setHub inFrame.hub).activeJob = none ∧
    (∃ j, (drillTo maxDepth 216 [⟨0, maxDepth, 6, 2, 216, 0, 0, 0, false, none⟩]).activeJob = some (1, j) ∧
      maxDepth ≤ j.holeDepth) ∧
    (let r : SweepRun := ⟨700, some 9, none⟩
     ((drillTo 10000 216 []).setSweep ⟨17500, true, false, some r, none⟩).sweep.current = some r) := by
  refine ⟨⟨by decide +kernel, by decide +kernel, by decide +kernel, by decide +kernel, by decide +kernel,
    by decide +kernel, by decide +kernel, ⟨_, rfl, by decide +kernel⟩, by decide +kernel⟩, by decide +kernel,
    ⟨_, rfl, by decide +kernel⟩, ⟨_, rfl, by decide +kernel⟩, by decide +kernel, by decide +kernel,
    ⟨_, rfl, by decide +kernel⟩, by decide +kernel⟩

/-- An extension that sets the owed flag starts no sweep, and one that finds a sweep in progress ends it (log 37, R135). -/
theorem test_extension_ends_sweep :
    (after (exec (.frameArrival stickUpFrame)
      (drillTo 10000 216 [⟨0, 10000, 6, 2, 216, 0, 0, 0, false, none⟩]))).sweep = ⟨0, true, false, none, none⟩ ∧
    (after (exec (.frameArrival stickUpFrame)
      ((drillTo 10000 216 [⟨0, 10000, 6, 2, 216, 0, 0, 0, false, none⟩]).setSweep
        ⟨0, true, false, some ⟨750, some 9, none⟩, none⟩))).sweep =
      ⟨500, true, false, none, some ⟨.endedDrilling, 1, some 9, some 7, false⟩⟩ := by decide +kernel

/-! ## The handler -/

theorem hyps_HandlerRequestsJoinQueue :
    (4 ≤ fullQueue.handler.queue.length ∧ fullQueue.accepts (.addRod (be 2 3)) = true ∧
      fullQueue.accepts (.pullRod (be 1 200)) = true ∧ fullQueue.accepts (.transferHold (be 1 (holderCode .slips))) = true) ∧
    (rig.accepts (.addRod (be 2 3)) = true ∧ rig.handler.queue = [] ∧ rig.activeJob ≠ none ∧ noActive.activeJob = none ∧
      rig.rod.find 65534 = none ∧ rig.rod.find 3 = some (rodAt 3 (.rack 5)) ∧ (rodAt 3 (.rack 5)).status = .inService ∧
      (rig.rod.find 4).map (·.status) = some .worn ∧ ((rig.rod.reserveRod 3 7).find 3).bind (·.reservation) ≠ none ∧
      rig.rod.members.length + (rig.handler.queue.filter fun e => e.op.kind == .addRod).length < 200) ∧
    200 ≤ (rig.setRod { rig.rod with members := List.range' 301 200 }).rod.members.length ∧
    (rig.mayLeaveWaiting = true ∧ pumpingRig.mayLeaveWaiting = false ∧ pumpingRig.accepts (.addRod (be 2 3)) = true) ∧
    ((rigWith [⟨7, .transferHold .slips, .waiting, []⟩] rig.handler).handler.queue ≠ [] ∧
      (rigWith [⟨7, .transferHold .slips, .waiting, []⟩] rig.handler).accepts (.pullRod (be 1 9)) = true) ∧
    (rig.accepts (.pullRod (be 1 200)) = true ∧ emptyHole.rod.members = [] ∧ rig.rod.members ≠ [] ∧
      (rig.rod.occupant 5).isSome = true ∧ (oneMember.rod.slotReservation 9).isSome = true ∧
      rig.rod.occupant 200 = none ∧ rig.rod.slotReservation 200 = none) ∧
    (let s := oneMember.setHandler { rig.handler with queue := [⟨7, .pullRod 9, .waiting, []⟩] }
     (s.handler.queue.filter fun e => e.op.kind == .pullRod).length = s.rod.members.length ∧
       s.accepts (.pullRod (be 1 8)) = true) := by decide +kernel

/-- The rig with one entry that waits. -/
def waitingFor (op : Operation) (s : State) : State :=
  s.setHandler { s.handler with queue := [⟨7, op, .waiting, []⟩], nextNum := 8 }

/-- A state with the string in the elevator. -/
def inElevator (s : State) : State :=
  (s.setHandler { s.handler with carrier := some .elevator }).setPins { s.pins with elevClosed := true }

theorem hyps_HeadLeavesWaiting :
    ((waitingFor (.addRod 3) rig).mayLeaveWaiting = true ∧ (waitingFor (.addRod 3) rig).headTest (.addRod 3) = true ∧
      (waitingFor (.addRod 3) rig).rod.members ≠ [] ∧ (waitingFor (.addRod 3) rig).handler.carrier = some .slips ∧
      (waitingFor (.addRod 3) rig).handler.determinationMs = none) ∧
    ((waitingFor (.addRod 4) rig).mayLeaveWaiting = true ∧ (waitingFor (.addRod 4) rig).headTest (.addRod 4) = false) ∧
    ((waitingFor (.addRod 3) emptyHole).mayLeaveWaiting = true ∧
      (waitingFor (.addRod 3) emptyHole).headTest (.addRod 3) = true ∧ emptyHole.rod.members = []) ∧
    ((inElevator (waitingFor (.addRod 3) rig)).mayLeaveWaiting = true ∧
      (inElevator (waitingFor (.addRod 3) rig)).headTest (.addRod 3) = true) ∧
    ((waitingFor (.pullRod 9) rig).mayLeaveWaiting = true ∧ (waitingFor (.pullRod 9) rig).headTest (.pullRod 9) = true ∧
      2 ≤ rig.rod.members.length) ∧
    ((inElevator (waitingFor (.pullRod 9) rig)).mayLeaveWaiting = true ∧
      (inElevator (waitingFor (.pullRod 9) rig)).headTest (.pullRod 9) = true ∧
      (inElevator (waitingFor (.pullRod 9) rig)).handler.carrier = some .elevator) ∧
    ((waitingFor (.pullRod 9) oneMember).mayLeaveWaiting = true ∧ oneMember.rod.members.length = 1 ∧
      (waitingFor (.pullRod 9) oneMember).headTest (.pullRod 9) = true ∧
      (inElevator (waitingFor (.pullRod 9) oneMember)).mayLeaveWaiting = true) ∧
    ((waitingFor (.transferHold .slips) rig).mayLeaveWaiting = true ∧
      (waitingFor (.transferHold .slips) rig).headTest (.transferHold .slips) = true ∧
      (waitingFor (.transferHold .elevator) rig).mayLeaveWaiting = true ∧
      (waitingFor (.transferHold .elevator) rig).handler.carrier ≠ some .elevator) ∧
    ((waitingFor (.addRod 3) (oweing none rig)).mayLeaveWaiting = false ∧
      (waitingFor (.addRod 3) (rig.setHub { rig.hub with rotary := fresh 5 })).mayLeaveWaiting = false ∧
      (waitingFor (.addRod 3) (rig.setHub { rig.hub with rotary := fresh 4 })).mayLeaveWaiting = true) := by decide +kernel

/-- A join in progress, with a PULL ROD behind it. -/
def joining : State := (rigWith [⟨7, .addRod 3, .joining, [.lifting]⟩, ⟨8, .pullRod 9, .queued, []⟩]
    { rig.handler with headNote := some ⟨7, .addRod, some 3⟩, wrenchPermit := true }).setRod { rig.rod with
  rods := [rodAt 1 (.string 1), rodAt 2 (.string 2), { rodAt 3 .inTransfer with reservation := some 7 }]
  slotRes := [(9, 8)] }

theorem hyps_CancelEmptiesQueue :
    (rig.accepts (.cancelHandler []) = true ∧ rig.handler.queue = []) ∧
    (joining.accepts (.cancelHandler []) = true ∧ (∀ x ∈ joining.handler.queue.tail, x.stage = .queued) ∧
      LocationsOk (joining.setHandler { joining.handler with nextNum := 9 })) := by
  decide +kernel

/-- A first rod being placed in an empty hole. -/
def placing : State := (emptyHole.setRod { emptyHole.rod with rods := [{ rodAt 3 .inTransfer with reservation := some 7 }] }
    ).setHandler { emptyHole.handler with
      queue := [⟨7, .addRod 3, .placing, [.lifting]⟩], headNote := some ⟨7, .addRod, some 3⟩, slipsRun := none }

/-- The last member being lifted out, the string in the elevator. -/
def liftingOut : State := (inElevator oneMember).setHandler { (inElevator oneMember).handler with
  queue := [⟨7, .pullRod 9, .liftingOut, [.racking]⟩], headNote := some ⟨7, .pullRod, none⟩ }

/-- A rod on its way to the rack. -/
def racking : State := (rigWith [⟨7, .pullRod 9, .racking, []⟩]
    { rig.handler with headNote := some ⟨7, .pullRod, some 3⟩ }).setRod { rig.rod with
  rods := [rodAt 1 (.string 1), rodAt 2 (.string 2), rodAt 3 .inTransfer], slotRes := [(9, 7)] }

theorem hyps_HolderInputsAct :
    (rig.running = true ∧ rig.pins.closed .slips = true ∧ rig.pins.closed .elevator = !true ∧
      rig.handler.blankingMs = none ∧ rig.handler.determinationMs = none ∧ rig.handler.holdFault = false ∧
      rig.handler.carrier = some .slips ∧ rig.rod.members ≠ [] ∧ (∀ e ∈ rig.handler.queue.tail, e.stage = .queued)) ∧
    ((∀ e ∈ joining.handler.queue.tail, e.stage = .queued) ∧ Stage.working .joining = true ∧
      joining.headTest (.pullRod 9) = true ∧ joining.headTest (.pullRod 201) = true ∧
      joining.headTest (.addRod 4) = false) ∧
    (let s := rigWith [⟨7, .transferHold .elevator, .setting, []⟩]
       { rig.handler with transfer := some ⟨.elevator, none⟩, blankingMs := some 0 }
     s.running = true ∧ s.pins.closed .elevator = !true ∧ s.handler.headStage ≠ some .placing ∧
       s.handler.blankingMs ≠ none ∧ s.handler.carrier ≠ some .elevator ∧ s.handler.headStage ≠ some .liftingOut ∧
       s.handler.transfer = some ⟨.elevator, none⟩) ∧
    (racking.handler.queue = [⟨7, .pullRod 9, .racking, []⟩] ∧ racking.rod.find 3 = some (rodAt 3 .inTransfer)) ∧
    (let s := placing.setPins { placing.pins with slipsClosed := false }
     s.running = true ∧ s.pins.slipsClosed = false ∧ s.rod.members = [] ∧
       s.rod.find 3 = some { rodAt 3 .inTransfer with reservation := some 7 }) ∧
    (liftingOut.running = true ∧ liftingOut.pins.slipsClosed = true ∧ liftingOut.handler.blankingMs = none ∧
      liftingOut.handler.carrier = some .elevator ∧ liftingOut.rod.members = [1] ∧
      liftingOut.rod.find 1 = some (rodAt 1 (.string 1)) ∧ liftingOut.pins.allstopN = true ∧
      liftingOut.handler.holdFault = false ∧ liftingOut.handler.determinationMs = none) := by decide +kernel

theorem hyps_JointsAndRackingComplete :
    (rig.running = true ∧ rig.handler.headStage ≠ some .joining ∧ rig.handler.headStage ≠ some .unjoining ∧
      rig.handler.headStage ≠ some .racking) ∧
    (joining.running = true ∧ joining.handler.carrier = some .slips ∧ joining.rod.members = [1] ++ [2] ∧
      joining.rod.find 3 = some { rodAt 3 .inTransfer with reservation := some 7 } ∧
      joining.rod.find 2 = some (rodAt 2 (.string 2)) ∧ (3 : Nat) ≠ 2) ∧
    (let s := rigWith [⟨7, .pullRod 9, .unjoining, [.racking]⟩]
       { rig.handler with headNote := some ⟨7, .pullRod, none⟩ }
     s.running = true ∧ s.rod.members = [1] ++ [2] ∧ ([1] : List Nat) ≠ [] ∧
       s.rod.find 2 = some (rodAt 2 (.string 2))) ∧
    (racking.running = true ∧ racking.handler.headNote = some ⟨7, .pullRod, some 3⟩ ∧
      racking.handler.queue = [⟨7, .pullRod 9, .racking, []⟩] ∧ racking.rod.find 3 = some (rodAt 3 .inTransfer)) ∧
    (joining.setHub { joining.hub with stickUp := gone 0 }).hub.stickUp.stale = true := by decide +kernel

/-- A state whose blanking runs. -/
def blanking (s : State) : State := s.setHandler { s.handler with blankingMs := some 100 }

/-- A transfer toward a holder whose run stands at 999 ms, in a stage of an operation. -/
def moving (op : Operation) (stage : Stage) (rest : List Stage) (x : Holder) (s : State) : State :=
  s.setHandler { s.handler with
    queue := [⟨7, op, stage, rest⟩], transfer := some ⟨x, some 999⟩, elevRun := some 999
    headNote := some ⟨7, op.kind, none⟩ }

theorem hyps_BlankingAndClosedRuns :
    (rig.running = true ∧ rig.handler.blankingMs = none) ∧
    (let s := (blanking joining).setPins { rig.pins with slipsClosed := false }
     s.running = true ∧ s.handler.blankingMs ≠ none ∧ s.rod.members ≠ [] ∧ s.handler.determinationMs = none ∧
       s.handler.holdFault = false ∧ s.handler.carrier = some .slips ∧ s.pins.closed .slips = false ∧
       s.handler.headStage ≠ some .liftingOut ∧ (∀ e ∈ s.handler.queue.tail, e.stage = .queued)) ∧
    (let s := (blanking liftingOut).setPins { liftingOut.pins with slipsClosed := false }
     s.running = true ∧ s.handler.blankingMs ≠ none ∧ s.pins.slipsClosed = false ∧ s.pins.elevClosed = true ∧
       s.handler.carrier = some .elevator ∧ s.rod.members = [1]) ∧
    (let s := (blanking (inElevator rig)).setHandler { rig.handler with
       carrier := some .elevator, blankingMs := some 100, slipsRun := none, elevRun := some 100 }
     s.running = true ∧ s.handler.blankingMs ≠ none ∧ s.handler.headStage ≠ some .liftingOut ∧
       s.pins.closed .elevator = true ∧ s.handler.rotPermit = false ∧ s.handler.slipsRel = s.slipsRelDue ∧
       s.handler.elevRel = s.elevRelDue ∧ s.handler.wrenchPermit = s.wrenchDue) ∧
    rig.handler.run .elevator = none ∧
    (let s := rigWith [⟨7, .transferHold .elevator, .setting, []⟩]
       { rig.handler with elevRun := some 999, transfer := some ⟨.elevator, some 999⟩ }
     s.running = true ∧ s.handler.run .elevator = some 999 ∧ s.handler.transfer = some ⟨.elevator, some 999⟩) ∧
    (∀ op ∈ [(Operation.addRod 3, Stage.lifting, []), (.addRod 3, .setting, [.joining, .lifting]),
        (.pullRod 9, .setting, [.unjoining, .racking])],
      (moving op.1 op.2.1 op.2.2 .slips rig).running = true ∧
      (moving op.1 op.2.1 op.2.2 .slips rig).handler.run .slips = some 5000 ∧
      (moving op.1 op.2.1 op.2.2 .slips rig).handler.transfer = some ⟨.slips, some 999⟩ ∧
      (moving op.1 op.2.1 op.2.2 .slips rig).permitsBarred = false) ∧
    (let s := moving (.pullRod 9) .setting [.liftingOut, .racking] .elevator oneMember
     s.running = true ∧ s.handler.run .elevator = some 999 ∧ s.handler.transfer = some ⟨.elevator, some 999⟩ ∧
       s.permitsBarred = false ∧ s.rod.members ≠ [] ∧ s.handler.slipsRel = false ∧ (s.rod.find 3).isSome = true) ∧
    (rig.handler.run .slips = some 5000 ∧ rig.handler.transfer = none ∧ rig.rod.members ≠ [] ∧
      rig.handler.carrier = some .slips ∧ rig.pins.allstopN = true ∧ rig.handler.holdFault = false ∧
      rig.handler.determinationMs = none) := by decide +kernel

/-- A state whose all-stop chain is open. -/
def stopped (s : State) : State := s.setPins { s.pins with allstopN := false }

theorem hyps_AbortsAndAllStop :
    (rig.running = true ∧ rig.handler.pastWaiting = false ∧ rig.pins.allstopN = true) ∧
    (racking.running = true ∧ racking.handler.queue = [⟨7, .pullRod 9, .racking, []⟩] ∧ Stage.working .racking = true ∧
      racking.pins.allstopN = true ∧ racking.config.strict ≠ 0 ∧
      (racking.setConfig { racking.config with strict := 0 }).config.strict = 0) ∧
    (joining.running = true ∧ joining.handler.pastWaiting = true ∧ joining.config.strict ≠ 0 ∧
      joining.pins.allstopN = true ∧ (∀ x ∈ joining.handler.queue.tail, x.stage = .queued) ∧
      joining.headTest (.pullRod 9) = true ∧ joining.headTest (.addRod 4) = false) ∧
    (let s := joining.setConfig { joining.config with strict := 0 }
     s.config.strict = 0 ∧ s.mayLeaveWaiting = true ∧ s.headTest (.pullRod 9) = true ∧
       (s.setSweep { s.sweep with owed := true }).mayLeaveWaiting = false) ∧
    ((stopped rig).running = true ∧ (stopped rig).pins.allstopN = false) ∧
    ((stopped emptyHole).rod.members = [] ∧ (stopped emptyHole).handler.holdFault = false ∧
      (stopped emptyHole).handler.determinationMs = none ∧ (stopped emptyHole).pins.allstopN = false) := by
  decide +kernel

/-- A state whose determination runs. -/
def determining (s : State) : State := s.setHandler { s.handler with determinationMs := some 0 }

theorem hyps_DeterminationSettlesCarrier :
    (rig.running = true ∧ rig.handler.determinationMs = none) ∧
    ((determining emptyHole).handler.determinationMs ≠ none ∧ (determining emptyHole).rod.members = [] ∧
      (determining emptyHole).running = true ∧ (determining emptyHole).pins.allstopN = true ∧
      (determining emptyHole).handler.holdFault = false) ∧
    ((determining rig).rod.members ≠ [] ∧ (determining rig).handler.carrier = some .slips ∧
      (determining rig).pins.closed .slips = true) ∧
    (let s := (determining rig).setPins { rig.pins with slipsClosed := false, elevClosed := true }
     s.pins.closed .slips = false ∧ Holder.elevator ≠ .slips ∧ s.pins.closed .elevator = true) ∧
    (let s := (determining rig).setPins { rig.pins with slipsClosed := false }
     s.pins.slipsClosed = false ∧ s.pins.elevClosed = false ∧ s.handler.carrier = some .slips) ∧
    (let s := (determining rig).setHandler { (determining rig).handler with carrier := none }
     s.rod.members ≠ [] ∧ s.handler.carrier = none ∧ s.handler.determinationMs ≠ none) := by decide +kernel

/-- A join that the determination finds in the elevator gets no wrench permit at the determination's end (R73). -/
theorem test_no_wrench_in_elevator :
    (after (exec .determinationEnd ((determining joining).setPins
      { joining.pins with slipsClosed := false, elevClosed := true }))).handler.wrenchPermit = false ∧
    (after (exec .determinationEnd (determining joining))).handler.wrenchPermit = true := by decide +kernel

/-! ## Circulation, balance and sweeps -/

/-- The volumes of a hole of 6 mm with its bit at 5 mm, summed by hand: A(311) − A(114) over 2 mm, the whole A(445) over
1 mm and A(445) − A(165) over 2 mm of the annulus, with 1 mm of open hole (R89 to R94). -/
theorem test_small_volumes :
    annularVolume ⟨1, [⟨1, 2, 114, 97⟩, ⟨2, 2, 165, 92⟩], 5, [(0, 3, 445), (3, 6, 311)], 6⟩ =
      (2 * (75964 - 10207) + 2 * (155528 - 21382) + 155528) / 1000 ∧
    steelVolume 5 [⟨1, 2, 114, 97⟩, ⟨2, 2, 165, 92⟩] = (2 * 2818 + 2 * 14735) / 1000 := by decide +kernel

theorem hyps_VolumesAreComputed : (jobIn .active []).mapOk ∧ rig.activeJob = some (1, jobIn .active []) ∧
    noActive.activeJob = none ∧ holeAt map3 12000 = 311 ∧ holeAt map3 132500 = 0 ∧
    memberAbove exampleString 6000 = some ⟨2, 6000, 165, 92⟩ ∧ memberAbove exampleString 132000 = none := by
  decide +kernel

theorem hyps_PumpItemsAndMudDensityAreSet :
    rig.accepts (.setPump (be 1 (pumpNumber .a) ++ be 2 65535 ++ be 1 255)) = true ∧
    rig.accepts (.mudCheck (be 2 65535)) = true ∧ rig.hub.density.stale = false ∧
    (rig.setHub { rig.hub with density := gone 1200 }).hub.density.stale = true ∧
    (rig.setHub { rig.hub with density := gone 1200 }).accepts (.mudCheck (be 2 1000)) = true := by decide +kernel

theorem hyps_CirculationIsSurveyed :
    (rig.accepts (.readCirculation []) = true ∧ rig.circ.survey = none ∧ rig.running = true) ∧
    ((surveying false true 0).accepts (.readCirculation []) = true ∧ (surveying false true 0).circ.survey.isSome = true) ∧
    (surveying true false 0).port.engine = .surveying ∧
    ((rig.setPort { rig.port with engine := .accepted 0x51 [] 0 }).accepts (.readCirculation []) = true ∧
      (readByExchange.port.engine = .accepted 0x51 [] 0 ∧ readByExchange.circ.survey.map (·.readWaits) = some true)) ∧
    ((surveying true true 0).port.engine = .surveying ∧ (surveying true true 0).sweep.current = some ⟨0, none, none⟩) ∧
    (let goal := annularVolume rig.surveyInputs * rig.config.sweepFactor / 100
     rig.surveyInputs.slot = 1 ∧ 0 < 100 * goal ∧ 100 * goal ≤ 100 * goal ∧
       (surveying false true (100 * goal)).sweep.current = some ⟨100 * goal, none, none⟩) := by decide +kernel

theorem hyps_BalanceIsRebased :
    rig.accepts (.rebaseBalance []) = true ∧ rig.hub.pitLevel.stale = false ∧ rig.circ.ref.valid = true ∧
    (rig.setHub { rig.hub with pitLevel := gone 0 }).hub.pitLevel.stale = true ∧
    (let b (pRef : Nat) : Int :=
       (8000000 : Int) - ((pRef : Int) - rig.addedNow + rig.steelNow - rig.circ.ref.sRef)
     rig.hub.pitLevel.value * rig.config.pitArea * 10 = 8000000 ∧ (b 8000000).natAbs < rig.config.balanceHyst * 1000 ∧
       ¬((b 8100000).natAbs < rig.config.balanceHyst * 1000) ∧ b 8100000 < 0) ∧
    rig.activeJob = some (1, jobIn .active []) ∧ (jobIn .active []).mapOk ∧ noActive.activeJob = none := by decide +kernel

theorem hyps_PitLevelDrivesLossGainAndPitLow :
    (let f := frame 0x90 0 0 65535 0 0 0 0
     inFrame.running = true ∧ inFrame.hub.frameOpen = true ∧ slotOf f 3 = some 65535 ∧
       (∀ k ∈ [1, 2, 4, 5, 6, 7], slotOf f k = none)) ∧
    (slotOf (frame 0x90 0 0 400 0 0 0 0) 3 = some rig.config.lowPit ∧
      slotOf (frame 0x90 0 0 500 0 0 0 0) 3 = some (rig.config.lowPit + rig.config.pitHyst)) ∧
    inFrame.hub.strokesA.invalid < 24 ∧ inFrame.hub.strokesB.invalid < 24 ∧ inFrame.hub.rotary.invalid < 24 ∧
    inFrame.circ.ref.valid = true ∧ inFrame.config.settleTime * 1000 ≤ inFrame.circ.settleMs := by decide +kernel

theorem hyps_SettlingAndSweepHoldEnd :
    (rig.running = true ∧ rig.settled = true) ∧
    (let s := rig.setCirc { rig.circ with settleMs := 59999 }
     s.settled = false ∧ s.handler.queue = []) ∧
    (let s := (waitingFor (.transferHold .elevator) rig).setCirc { rig.circ with settleMs := 59999 }
     s.running = true ∧ s.settled = false ∧ s.sweep.owed = false ∧ s.hub.pumpA.state = .stopped ∧
       s.hub.pumpB.state = .stopped ∧ s.rotating = .no ∧ s.handler.holdFault = false ∧ s.handler.handlerFault = false ∧
       s.pins.allstopN = true ∧ s.rod.members ≠ [] ∧ s.handler.carrier ≠ some .elevator) ∧
    rig.sweep.current.bind (·.holdMs) = none ∧
    (let s := rig.setSweep ⟨0, true, false, some ⟨5, none, some 3⟩, none⟩
     s.sweep.current = some ⟨5, none, some 3⟩ ∧ s.anyPumping = false) := by decide +kernel

/-- A SET CONFIG that lowers the settle time in the very millisecond in which the timer reaches the old one does not keep
the head in WAITING (R111). -/
theorem test_settle_time_written_as_it_settles :
    (after (step (((waitingFor (.transferHold .elevator) rig).setCirc { rig.circ with settleMs := 59999 }).setPort
      { rig.port with engine := .accepted 0x04 (be 1 61 ++ be 4 30) 0 }))).handler.pastWaiting = true := by
  decide +kernel

theorem hyps_SweepsAreRequestedAndWaived :
    rig.accepts (.requestSweep []) = true ∧ rig.activeJob ≠ none ∧ noActive.activeJob = none ∧ rig.sweep.owed = false ∧
    (pumpingRig.anyPumping = true ∧ pumpingRig.handler.pastWaiting = false ∧ pumpingRig.job.activity ≠ .drilling ∧
      pumpingRig.sweep.current = none ∧ pumpingRig.accepts (.requestSweep []) = true) ∧
    ((surveying false true 7).accepts (.waiveSweep []) = true ∧ (surveying false true 7).sweep.owed = true ∧
      (surveying false true 7).activeJob = some (1, jobIn .active []) ∧ (surveying false true 7).handler.queue = []) ∧
    ((oweing none noActive).accepts (.waiveSweep []) = true ∧ (oweing none noActive).sweep.owed = true ∧
      (oweing none noActive).activeJob = none) := by
  decide +kernel

/-! ## Jobs and rig time -/

/-- A new job with every field at its greatest value. -/
def greatJob : NewJob := ⟨4294967295, some (List.replicate 16 0x7E), 500000, 900⟩

/-- The OPEN JOB of a new job. -/
def opening (x : NewJob) : Instr :=
  .openJob (be 4 x.customer ++ optText 16 x.site ++ be 4 x.bandWidth ++ be 2 x.bit)

/-- An empty hole with no ACTIVE job, slot 1 free. -/
def betweenJobs : State := emptyHole.putJob 1 none

theorem hyps_JobIsOpened :
    (greatJob.customer < 4294967296 ∧ (∀ v ∈ greatJob.site, v.length = 16 ∧ isText v = true) ∧
      1000 ≤ greatJob.bandWidth ∧ greatJob.bandWidth ≤ 500000 ∧ 50 ≤ greatJob.bit ∧ greatJob.bit ≤ 900) ∧
    (rig.accepts (opening greatJob) = true ∧ rig.activeJob ≠ none) ∧
    (noActive.accepts (opening greatJob) = true ∧ noActive.activeJob = none ∧ noActive.rod.members ≠ []) ∧
    (betweenJobs.accepts (opening greatJob) = true ∧ betweenJobs.activeJob = none ∧ betweenJobs.rod.members = [] ∧
      (1 ∈ jobSlots ∧ betweenJobs.job.jobs.get 1 = none ∧ ∀ m ∈ jobSlots, m < 1 → betweenJobs.job.jobs.get m ≠ none) ∧
      0 < betweenJobs.poolFree ∧ betweenJobs.hub.pitLevel.stale = false) ∧
    (let s := (betweenJobs.putJob 1 (some (jobIn .settled []))).putJob 4 (some (jobIn .settled []))
     s.activeJob = none ∧ s.rod.members = [] ∧ ∀ m ∈ jobSlots, s.job.jobs.get m ≠ none) ∧
    (let s := betweenJobs.putJob 4 (some { jobIn .settled [] with
       holeDepth := 122, map := (List.range 122).map fun n => ⟨n, n + 1, 0, 1, 100, 0, 0, 0, false, none⟩ })
     s.poolFree = 0 ∧ s.activeJob = none ∧ s.job.jobs.get 1 = none) ∧
    (betweenJobs.setHub { betweenJobs.hub with pitLevel := gone 0 }).hub.pitLevel.stale = true := by decide +kernel

theorem hyps_ActiveJobIsCompleted :
    (rig.accepts (.completeJob []) = true ∧ SweepOk rig ∧ PoolOk rig ∧ rig.activeJob ≠ none ∧ rig.rod.members ≠ []) ∧
    (noActive.accepts (.completeJob []) = true ∧ noActive.activeJob = none) ∧
    (emptyHole.accepts (.completeJob []) = true ∧ SweepOk emptyHole ∧ PoolOk emptyHole ∧
      emptyHole.activeJob = some (1, jobIn .active []) ∧ emptyHole.rod.members = [] ∧ emptyHole.handler.queue = [] ∧
      (jobIn .active []).mapOk ∧ emptyHole.hub.pitLevel.stale = false ∧ emptyHole.circ.ref.valid = true) ∧
    ((waitingFor (.addRod 3) emptyHole).handler.queue ≠ [] ∧
      (waitingFor (.addRod 3) emptyHole).accepts (.completeJob []) = true) ∧
    (let b (pRef : Nat) : Int := (8000000 : Int) - ((pRef : Int) - emptyHole.addedNow + emptyHole.steelNow - 0)
     (b 8000000).natAbs < emptyHole.config.balanceHyst * 1000 ∧
       emptyHole.config.balanceHyst * 1000 ≤ (b 8100000).natAbs) := by decide +kernel

theorem hyps_JobsAreReadAndRetired :
    (rig.accepts (.lookUpJob (be 1 0 ++ be 1 1)) = true ∧ rig.activeJob = some (1, jobIn .active []) ∧
      noActive.activeJob = none ∧ noActive.accepts (.lookUpJob (be 1 0 ++ be 1 0)) = true ∧
      rig.job.jobs.get 4 = none ∧ rig.job.jobs.get 3 = some (jobIn .priced twoLines)) ∧
    (rig.accepts (.retireJob true (be 1 2)) = true ∧ rig.job.jobs.get 2 = some (jobIn .complete []) ∧
      rig.accepts (.retireJob false (be 1 4)) = true) ∧
    (poolEmpty.job.jobs.get 4).map (·.state) = some .settled ∧
    (rig.poolFree + (jobIn .complete []).map.length ≤ 128 ∧ PoolOk rig) := by decide +kernel

/-- The rig rotating, pumping and on bottom. -/
def drilling : State :=
  (pumpingRig.setHub { pumpingRig.hub with rotary := fresh 5 }).setRod { rig.rod with rawDepth := 132200 }

theorem hyps_IdleFamilyAndSecondMarks :
    (rig.running = true ∧ rig.job.activity = .idle ∧ rig.job.activity ≠ .standby ∧ rig.anyPumping = false) ∧
    (rig.setJob { rig.job with activity := .standby }).job.activity = .standby ∧
    (rig.activeJob = some (1, jobIn .active []) ∧ noActive.activeJob = none) ∧
    (let s := drilling.setJob { rig.job with activity := .drilling }
     s.job.activity = .drilling ∧ s.running = true ∧ (jobIn .active []).map = map3.take 2 ++
       [⟨90000, 132500, 6, 6, 216, 52880, 1211500, 0, false, none⟩]) ∧
    (stopped rig).pins.allstopN = false ∧
    (rig.setHub { rig.hub with rotary := gone 0 }).rotating = .unknown ∧
    (drilling.rotating = .yes ∧ drilling.hub.pumpA.state = .pumping ∧
      (jobIn .active []).holeDepth ≤ drilling.rod.rawDepth + drilling.config.onBottomTol) ∧
    (¬((jobIn .active []).holeDepth ≤ 132199 + drilling.config.onBottomTol)) ∧
    (racking.handler.pastWaiting = true ∧ racking.rotating = .no ∧ pumpingRig.rotating = .no) ∧
    (let s := oweing none pumpingRig
     let t := after (exec .secondMark s)
     t.job.activity ≠ s.job.activity ∧ t.job.activity ≠ .drilling ∧ s.sweep.owed = true ∧ s.sweep.current = none ∧
       s.hub.pumpA.state = .pumping ∧ s.handler.pastWaiting = false) := by decide +kernel

/-! ## Rates, pricing and invoices -/

/-- A rate entry with every filter and its greatest values. -/
def greatRate : RateEntry :=
  ⟨.footage, some (1, 8), some (0, 15), some (50, 900), some 7, 1000000, some (List.replicate 12 0x20)⟩

theorem hyps_RateEntriesAreEdited :
    ((∀ f ∈ greatRate.hardness, 1 ≤ f.1 ∧ f.1 ≤ f.2 ∧ f.2 ≤ 8) ∧ (∀ f ∈ greatRate.band, f.1 ≤ f.2 ∧ f.2 ≤ 15) ∧
      (∀ f ∈ greatRate.diameter, 50 ≤ f.1 ∧ f.1 ≤ f.2 ∧ f.2 ≤ 900) ∧ (∀ a ∈ greatRate.activity, a ≤ 7) ∧
      greatRate.rate ≤ 1000000 ∧ (∀ v ∈ greatRate.label, v.length = 12 ∧ isText v = true)) ∧
    (rig.accepts (.enterRate true (be 1 31 ++ rateFields greatRate)) = true ∧ rig.pricing.entry 31 = none) ∧
    (rig.accepts (.amendRate true (be 1 0 ++ rateFields greatRate)) = true ∧ rig.pricing.entry 0 ≠ none ∧
      rig.useCount 0 = 0 ∧ rig.pricing.entry 8 ≠ none ∧ rig.useCount 8 = 1) ∧
    (rig.accepts (.retireRate false (be 1 31)) = true ∧ rig.accepts (.retireRate true (be 1 0)) = true) := by
  decide +kernel

/-- A pricing of slot 2 in progress. -/
def pricingSlot2 : State := (rig.setPricing { rig.pricing with
  working := some ⟨2, priceLines basaltRates (jobIn .complete []), 0⟩ }).setPort { rig.port with engine := .pricing }

theorem hyps_PricingRunsAndCompletes :
    (rig.accepts (.priceJob (be 1 2)) = true ∧ rig.job.jobs.get 2 = some (jobIn .complete []) ∧
      rig.job.jobs.get 4 = none ∧ (jobIn .priced twoLines).state ≠ .complete ∧ rig.port.engine = .idle) ∧
    (let s := rig.setPort { rig.port with engine := .accepted 0x84 (be 1 2) 1 }
     s.accepts (.priceJob (be 1 2)) = true ∧ s.port.engine = .accepted 0x84 (be 1 2) 1) ∧
    (rig.running = true ∧ rig.pricing.working = none) ∧
    (pricingSlot2.running = true ∧ pricingSlot2.pricing.working =
        some ⟨2, priceLines basaltRates (jobIn .complete []), 0⟩ ∧
      pricingSlot2.job.jobs.get 2 = some (jobIn .complete []) ∧
      (∃ l ∈ priceLines basaltRates (jobIn .complete []), l.index = none)) := by decide +kernel

/-- A PRICE JOB accepted by an exchange completes 20 ms after its acceptance (R181). -/
theorem test_pricing_time :
    (after (step (rig.setPort { rig.port with engine := .accepted 0x84 (be 1 2) 0 }))).pricing.working.map (·.elapsedMs) =
      some 1 ∧
    (after (step (pricingSlot2.setPricing { pricingSlot2.pricing with
      working := some ⟨2, priceLines basaltRates (jobIn .complete []), 19⟩ }))).port.engine = .idle := by decide +kernel

theorem hyps_EveryChargeStandsOnALine : (jobIn .complete []).mapOk ∧ 0 < (jobIn .complete []).bandWidth ∧
    firstMatch basaltRates ⟨.footage, 4, 1, 311, 0, 1⟩ = some 1 ∧ firstMatch basaltRates ⟨.footage, 5, 0, 311, 0, 1⟩ = some 0 ∧
    firstMatch basaltRates ⟨.time, 0, 0, 0, 7, 1⟩ = some 6 ∧ firstMatch basaltRates ⟨.strike, 0, 0, 0, 0, 1⟩ = none := by
  decide +kernel

theorem hyps_LinesAreAmounted : priceLines basaltRates (jobIn .complete []) ≠ [] ∧
    basaltRates[8]? = some (some ⟨.fixed, none, none, none, none, 150000, none⟩) := by decide +kernel

theorem hyps_InvoicesAreReadReleasedAndSettled :
    (rig.accepts (.readInvoiceLine (be 1 3 ++ be 1 36)) = true ∧ rig.job.jobs.get 3 = some (jobIn .priced twoLines) ∧
      (jobIn .priced twoLines).lines[2 - 1]?.isSome = true ∧ (jobIn .priced twoLines).lines.length < 3 ∧
      rig.job.jobs.get 4 = none ∧ rig.job.jobs.get 2 = some (jobIn .complete [])) ∧
    (rig.accepts (.releasePricing true (be 1 3)) = true ∧ rig.accepts (.settleJob true (be 1 3)) = true ∧
      rig.accepts (.settleJob false (be 1 3)) = true ∧ (jobIn .priced twoLines).state = .priced) := by decide +kernel

/-! ## Power -/

theorem hyps_StartsAreWarmOrCold :
    rig.running = true ∧
    (let off := after (exec .mainPowerLoss racking)
     off.running = false ∧ off.power.retentionLost = false ∧ off.rod.members ≠ []) ∧
    (let lost := after (exec .retentionLostSet (after (exec .mainPowerLoss racking)))
     lost.running = false ∧ lost.power.retentionLost = true) ∧
    (let off := after (exec .mainPowerLoss emptyHole)
     off.running = false ∧ off.power.retentionLost = false ∧ off.rod.members = []) := by decide +kernel

theorem hyps_PowerAndResetLine :
    (after (exec .mainPowerLoss rig)).power.phase = .off ∧ rig.power.phase ≠ .off ∧ rig.running = true ∧
    rig.power.rstLowMs = none ∧ (rig.setPower { rig.power with rstLowMs := some 199 }).power.rstLowMs = some 199 ∧
    (rig.setPower { rig.power with rstLowMs := some 199 }).running = true ∧
    (after (exec .resetEntry rig)).pdo.byte 61 = some 0xFF := by decide +kernel

/-! ## The commands run from reset, where the host places them -/

/-- A frame start right after reset, and the same from the front of the queue (log 35). -/
theorem test_step_from_reset :
    after (step (queued .frameStart State.reset)) = after (exec .frameStart State.reset) ∧
    (after (step (queued .frameStart State.reset))).hub.frameOpen = true := by decide +kernel

/-- No row of the table gives bits, so no word spells a command. -/
theorem test_no_word_decodes : decodeTableWord 8 0x10 = none ∧ State.reset.withFetchWord 8 0x10 = State.reset := by
  decide +kernel

end Sys2Proof.Tests
end

section
/-! QUARANTINE ROD, RETURN ROD and RETIRE ROD (R17, R18, R19): how the rod table reads after a record is moved or freed,
and what each of the three requests makes of a state. -/
namespace Sys2Proof.Laws.RackRods
open Sys2Proof Sys2Proof.Machine

/-! ## Arguments that were encoded are read back (R200, R201) -/

@[simp] theorem length_be (n v : Nat) : (be n v).length = n := by
  induction n with
  | zero => rfl
  | succ n ih => simp [be, ih]

theorem foldl_be (n v acc : Nat) :
    (be n v).foldl (fun a b => a * 256 + b.toNat) acc = acc * 256 ^ n + v % 256 ^ n := by
  induction n generalizing acc with
  | zero => simp [be, Nat.mod_one]
  | succ n ih =>
    have hbyte : (BitVec.ofNat 8 (v / 256 ^ n)).toNat = v / 256 ^ n % 256 := BitVec.toNat_ofNat _ _
    have hpow : 256 ^ (n + 1) = 256 * 256 ^ n := Nat.pow_succ'
    rw [be, List.foldl_cons, ih, hbyte, Nat.mod_pow_succ, hpow, Nat.add_mul, Nat.mul_assoc, Nat.mul_comm (256 ^ n),
      Nat.add_assoc, Nat.add_comm (v % 256 ^ n)]

theorem fromBE_be {n v : Nat} (h : v < 256 ^ n) : fromBE (be n v) = v := by
  rw [fromBE, foldl_be, Nat.mod_eq_of_lt h, Nat.zero_mul, Nat.zero_add]

/-- A field is read back behind the fields that stand before it. -/
theorem num_be {before after : List Byte} {off n v : Nat} (hoff : before.length = off) (h : v < 256 ^ n) :
    num (before ++ (be n v ++ after)) off n = v := by
  rw [num, List.drop_left' hoff, List.take_left' (length_be n v), fromBE_be h]

theorem tagField_be {tag : Nat} (after : List Byte) (h1 : 1 ≤ tag) (h2 : tag ≤ 65534) :
    tagField (be 2 tag ++ after) 0 = some tag := by
  have hnum : num (be 2 tag ++ after) 0 2 = tag := num_be (before := []) rfl (by omega)
  simp [tagField, field, inRange, hnum, h1, h2]

theorem decodeTag_be {tag : Nat} (h1 : 1 ≤ tag) (h2 : tag ≤ 65534) : decodeTag (be 2 tag) = some tag := by
  simpa [decodeTag, ofLength] using tagField_be [] h1 h2

theorem decodeReturnRod_be {tag slot : Nat} (h1 : 1 ≤ tag) (h2 : tag ≤ 65534) (h3 : 1 ≤ slot) (h4 : slot ≤ 200) :
    decodeReturnRod (be 2 tag ++ be 1 slot) = some (tag, slot) := by
  have hnum : num (be 2 tag ++ be 1 slot) 2 1 = slot := by
    simpa using num_be (after := []) (length_be 2 tag) (show slot < 256 ^ 1 by omega)
  simp [decodeReturnRod, ofLength, tagField_be _ h1 h2, field, inRange, hnum, h3, h4]

/-! ## The checks of a request (R184) -/

theorem runRequest_of_takes {s : State} {code : Byte} {args : List Byte} (act : State → State)
    (h : s.takes code args = true) : runRequest code args act s = act s := if_pos h

@[simp] theorem found_none {α : Type} (code : ReplyCode) (k : α → State → State) (s : State) :
    found code none k s = s.refused code := rfl

@[simp] theorem found_some {α : Type} (code : ReplyCode) (v : α) (k : α → State → State) (s : State) :
    found code (some v) k s = k v s := rfl

@[simp] theorem check_of_holds {code : ReplyCode} {ok : Bool} {k : State → State} {s : State} (h : ok = true) :
    check code ok k s = k s := if_pos h

@[simp] theorem check_of_fails {code : ReplyCode} {ok : Bool} {k : State → State} {s : State} (h : ¬ok = true) :
    check code ok k s = s.refused code := if_neg h

/-! ## The rod table (R1, R2, R3) -/

section rods
variable {u : RodUnit} {r : RodRecord} {tag : Nat}

theorem find_tag (h : u.find tag = some r) : r.tag = tag := by simpa using List.find?_some h

theorem find_mem (h : u.find tag = some r) : r ∈ u.rods := List.mem_of_find?_eq_some h

theorem racked_iff : r.racked = true ↔ ∃ n, r.location = .rack n := by
  unfold RodRecord.racked
  split
  · next n hn => simp [hn]
  · next hno => simpa using hno

theorem occupant_eq_none_iff {n : Nat} : u.occupant n = none ↔ ∀ x ∈ u.rods, x.location ≠ .rack n := by
  simp [RodUnit.occupant]

theorem slotOpen_iff {n : Nat} : u.slotOpen n = true ↔ u.occupant n = none ∧ u.slotReservation n = none := by
  simp [RodUnit.slotOpen]

/-- Any record in the rack slot of a rod has its tag (`SteelStaysInOnePlace`). -/
theorem tag_of_same_slot {n : Nat} {x : RodRecord} (ok : u.agrees) (hr : u.find tag = some r)
    (hn : r.location = .rack n) (hx : x ∈ u.rods) (hxn : x.location = .rack n) : x.tag = tag := by
  obtain ⟨-, -, -, -, hplace, -⟩ := ok
  have hslot := hplace r (find_mem hr)
  simp only [RodUnit.placeOk, hn, Bool.and_eq_true, List.all_eq_true] at hslot
  obtain ⟨-, halone⟩ := hslot
  simpa [hxn, find_tag hr] using halone x hx

/-! ### A record moved -/

theorem find_modify (f : RodRecord → RodRecord) (hf : ∀ r, (f r).tag = r.tag) (x : Nat) :
    (u.modify tag f).find x = (u.find x).map fun r => if r.tag = tag then f r else r := by
  have hkeeps : ∀ r : RodRecord, (if r.tag = tag then f r else r).tag = r.tag := fun r => by
    split
    · exact hf r
    · rfl
  simp only [RodUnit.find, RodUnit.modify, List.find?_map, Function.comp_def, hkeeps]

theorem find_move (l : Location) (x : Nat) :
    (u.move tag l).find x = (u.find x).map fun r => if r.tag = tag then { r with location := l } else r :=
  find_modify (fun r => { r with location := l }) (fun _ => rfl) x

theorem find_move_same (l : Location) (h : u.find tag = some r) :
    (u.move tag l).find tag = some { r with location := l } := by
  rw [find_move]
  simp [h, find_tag h]

theorem find_move_other {x : Nat} (l : Location) (hx : x ≠ tag) : (u.move tag l).find x = u.find x := by
  rw [find_move]
  cases hr : u.find x with
  | none => rfl
  | some r => simp [find_tag hr, hx]

theorem length_move (l : Location) : (u.move tag l).rods.length = u.rods.length := List.length_map _

theorem mem_move {l : Location} {x : RodRecord} (h : x ∈ (u.move tag l).rods) :
    x.tag = tag ∧ x.location = l ∨ x.tag ≠ tag ∧ x ∈ u.rods := by
  obtain ⟨y, hy, rfl⟩ := List.mem_map.1 h
  by_cases ht : y.tag = tag <;> simp [ht, hy]

/-- A rod moved out of its rack slot leaves the slot free (R17). -/
theorem occupant_move_out {n : Nat} {l : Location} (ok : u.agrees) (hr : u.find tag = some r)
    (hn : r.location = .rack n) (hl : l ≠ .rack n) : (u.move tag l).occupant n = none := by
  rw [occupant_eq_none_iff]
  intro x hx hxn
  rcases mem_move hx with ⟨-, hxl⟩ | ⟨hxt, hxu⟩
  · exact hl (hxl.symm.trans hxn)
  · exact hxt (tag_of_same_slot ok hr hn hxu hxn)

/-- A rod moved into a free rack slot is its occupant (R18). -/
theorem occupant_move_in {n : Nat} (hr : u.find tag = some r) (hfree : u.occupant n = none) :
    (u.move tag (.rack n)).occupant n = some tag := by
  cases ho : (u.move tag (.rack n)).occupant n with
  | none =>
    exact absurd rfl (occupant_eq_none_iff.1 ho _ (find_mem (find_move_same (.rack n) hr)))
  | some x =>
    obtain ⟨y, hy, rfl⟩ := Option.map_eq_some_iff.1 ho
    have hyn : y.location = .rack n := by simpa using List.find?_some hy
    rcases mem_move (List.mem_of_find?_eq_some hy) with ⟨ht, -⟩ | ⟨-, hyu⟩
    · rw [ht]
    · exact absurd hyn (occupant_eq_none_iff.1 hfree y hyu)

/-! ### A record freed -/

theorem find_free_same : (u.free tag).find tag = none := by
  simp [RodUnit.find, RodUnit.free]

theorem find_free_other {x : Nat} (hx : x ≠ tag) : (u.free tag).find x = u.find x := by
  have hboth : ∀ r : RodRecord, (r.tag != tag && r.tag == x) = (r.tag == x) := fun r => by
    by_cases h : r.tag = x <;> simp [h, hx]
  simp only [RodUnit.find, RodUnit.free, List.find?_filter, Bool.decide_and, Bool.decide_eq_true, hboth]

theorem length_filter_tag {rods : List RodRecord} (hnodup : (rods.map (·.tag)).Nodup) (hr : r ∈ rods)
    (ht : r.tag = tag) : (rods.filter fun x => x.tag != tag).length + 1 = rods.length := by
  induction rods with
  | nil => exact absurd hr List.not_mem_nil
  | cons x rods ih =>
    rw [List.map_cons, List.nodup_cons] at hnodup
    obtain ⟨hx, hrest⟩ := hnodup
    by_cases hxt : x.tag = tag
    · have hothers : ∀ y ∈ rods, (y.tag != tag) = true := fun y hy =>
        bne_iff_ne.2 fun hyt => hx (List.mem_map.2 ⟨y, hy, hyt.trans hxt.symm⟩)
      have hdropped : ¬(x.tag != tag) = true := fun h => bne_iff_ne.1 h hxt
      rw [List.filter_cons, if_neg hdropped, List.filter_eq_self.2 hothers, List.length_cons]
    · have hr' : r ∈ rods := (List.mem_cons.1 hr).resolve_left fun h => hxt (h ▸ ht)
      have hkept : (x.tag != tag) = true := bne_iff_ne.2 hxt
      rw [List.filter_cons, if_pos hkept, List.length_cons, ih hrest hr', List.length_cons]

/-- No two records have one tag (R1), so exactly one is freed. -/
theorem length_free (ok : u.agrees) (h : u.find tag = some r) :
    (u.free tag).rods.length + 1 = u.rods.length := by
  obtain ⟨hnodup, -⟩ := ok
  exact length_filter_tag hnodup (find_mem h) (find_tag h)

theorem occupant_free {n : Nat} (ok : u.agrees) (hr : u.find tag = some r) (hn : r.location = .rack n) :
    (u.free tag).occupant n = none := by
  rw [occupant_eq_none_iff]
  intro x hx hxn
  obtain ⟨hxu, hxt⟩ := List.mem_filter.1 hx
  exact absurd (tag_of_same_slot ok hr hn hxu hxn) (by simpa using hxt)

/-! ## The requests -/

/-- A request that moves a rod changes its record's location alone and replies with the record (R13). -/
theorem doneRod_move {s : State} (l : Location) (h : s.rod.find tag = some r) :
    OnlyRods s (doneRod tag (s.rod.move tag l) s) ∧ OtherRods tag s (doneRod tag (s.rod.move tag l) s) ∧
      (doneRod tag (s.rod.move tag l) s).rod.rods.length = s.rod.rods.length ∧
      (doneRod tag (s.rod.move tag l) s).rod.find tag = some { r with location := l } ∧
      Replied s (doneRod tag (s.rod.move tag l) s) .done (rodBody { r with location := l }) := by
  have hrod : (doneRod tag (s.rod.move tag l) s).rod = s.rod.move tag l := rfl
  have hfind := find_move_same l h
  refine ⟨rfl, fun x hx => ?_, ?_, ?_, ?_⟩
  · rw [hrod, find_move_other l hx]
  · rw [hrod, length_move]
  · rw [hrod, hfind]
  · rw [Replied, doneRod, hfind]; rfl

variable {s : State} {args : List Byte} {slot : Nat}

/-- The conditions of QUARANTINE ROD in the order of R17. -/
theorem exec_quarantineRod (ha : s.accepts (.quarantineRod args) = true) (hd : decodeTag args = some tag) :
    exec (.quarantineRod args) s = .next (found .notFound (s.rod.find tag) (fun r =>
      check .inUse r.reservation.isNone
        (check .wrongState r.racked (doneRod tag (s.rod.move tag .quarantine)))) s) := by
  have hrun : exec (.quarantineRod args) s = .next (reqQuarantineRod args s) :=
    congrArg _ (runRequest_of_takes _ ha)
  rw [hrun, reqQuarantineRod, hd]; rfl

/-- The conditions of RETURN ROD in the order of R18. -/
theorem exec_returnRod (ha : s.accepts (.returnRod args) = true) (hd : decodeReturnRod args = some (tag, slot)) :
    exec (.returnRod args) s = .next (found .notFound (s.rod.find tag) (fun r =>
      check .wrongState (r.location == .quarantine)
        (check .inUse (s.rod.slotOpen slot) (doneRod tag (s.rod.move tag (.rack slot))))) s) := by
  have hrun : exec (.returnRod args) s = .next (reqReturnRod args s) := congrArg _ (runRequest_of_takes _ ha)
  rw [hrun, reqReturnRod, hd]; rfl

/-- The conditions of RETIRE ROD in the order of R19. -/
theorem exec_retireRod (ha : s.accepts (.retireRod args) = true) (hd : decodeTag args = some tag) :
    exec (.retireRod args) s = .next (found .notFound (s.rod.find tag) (fun r =>
      check .inUse r.reservation.isNone
        (check .wrongState (r.racked || r.location == .quarantine)
          (fun t => done (rodBody r) (t.setRod (t.rod.free tag))))) s) := by
  have hrun : exec (.retireRod args) s = .next (reqRetireRod args s) := congrArg _ (runRequest_of_takes _ ha)
  rw [hrun, reqRetireRod, hd]; rfl

theorem quarantineRod_moves (ok : s.rod.agrees) (ha : s.accepts (.quarantineRod args) = true)
    (hd : decodeTag args = some tag) :
    (s.rod.find tag = none → Refused (.quarantineRod args) s .notFound) ∧
    (∀ r, s.rod.find tag = some r → r.reservation ≠ none → Refused (.quarantineRod args) s .inUse) ∧
    (∀ r, s.rod.find tag = some r → r.reservation = none → (∀ n, r.location ≠ .rack n) →
      Refused (.quarantineRod args) s .wrongState) ∧
    (∀ r n, s.rod.find tag = some r → r.reservation = none → r.location = .rack n →
      ∃ t, exec (.quarantineRod args) s = .next t ∧ OnlyRods s t ∧ OtherRods tag s t ∧
        t.rod.rods.length = s.rod.rods.length ∧ t.rod.find tag = some { r with location := .quarantine } ∧
        t.rod.occupant n = none ∧ Replied s t .done (rodBody { r with location := .quarantine })) := by
  rw [Refused, Refused, Refused, exec_quarantineRod ha hd]
  refine ⟨fun hr => ?notFound, fun r hr hres => ?reserved, fun r hr hres hloc => ?notRacked,
    fun r n hr hres hn => ?moved⟩
  case notFound => simp [hr]
  case reserved => simp [hr, hres]
  case notRacked =>
    have hracked : ¬r.racked = true := by simpa [racked_iff] using hloc
    simp [hr, hres, hracked]
  case moved =>
    obtain ⟨honly, hothers, hlength, hfind, hreply⟩ := doneRod_move .quarantine hr
    have hracked : r.racked = true := racked_iff.2 ⟨n, hn⟩
    exact ⟨_, by simp [hr, hres, hracked], honly, hothers, hlength, hfind,
      occupant_move_out ok hr hn nofun, hreply⟩

theorem retireRod_frees (ok : s.rod.agrees) (ha : s.accepts (.retireRod args) = true)
    (hd : decodeTag args = some tag) :
    (s.rod.find tag = none → Refused (.retireRod args) s .notFound) ∧
    (∀ r, s.rod.find tag = some r → r.reservation ≠ none → Refused (.retireRod args) s .inUse) ∧
    (∀ r, s.rod.find tag = some r → r.reservation = none → (∀ n, r.location ≠ .rack n) → r.location ≠ .quarantine →
      Refused (.retireRod args) s .wrongState) ∧
    (∀ r, s.rod.find tag = some r → r.reservation = none → (∃ n, r.location = .rack n) ∨ r.location = .quarantine →
      ∃ t, exec (.retireRod args) s = .next t ∧ OnlyRods s t ∧ OtherRods tag s t ∧
        t.rod.rods.length + 1 = s.rod.rods.length ∧ t.rod.find tag = none ∧
        (∀ n, r.location = .rack n → t.rod.occupant n = none) ∧ Replied s t .done (rodBody r)) := by
  rw [Refused, Refused, Refused, exec_retireRod ha hd]
  refine ⟨fun hr => ?notFound, fun r hr hres => ?reserved, fun r hr hres hloc hq => ?elsewhere,
    fun r hr hres hloc => ?freed⟩
  case notFound => simp [hr]
  case reserved => simp [hr, hres]
  case elsewhere =>
    have hracked : ¬r.racked = true := by simpa [racked_iff] using hloc
    simp [hr, hres, hracked, hq]
  case freed =>
    have hplace : (r.racked || r.location == .quarantine) = true := by simpa [racked_iff] using hloc
    exact ⟨done (rodBody r) (s.setRod (s.rod.free tag)), by simp [hr, hres, hplace], rfl,
      fun x hx => find_free_other hx, length_free ok hr, find_free_same,
      fun n hn => occupant_free ok hr hn, rfl⟩

theorem returnRod_moves (ha : s.accepts (.returnRod args) = true) (hd : decodeReturnRod args = some (tag, slot)) :
    (s.rod.find tag = none → Refused (.returnRod args) s .notFound) ∧
    (∀ r, s.rod.find tag = some r → r.location ≠ .quarantine → Refused (.returnRod args) s .wrongState) ∧
    (∀ r, s.rod.find tag = some r → r.location = .quarantine →
      (s.rod.occupant slot).isSome = true ∨ (s.rod.slotReservation slot).isSome = true →
      Refused (.returnRod args) s .inUse) ∧
    (∀ r, s.rod.find tag = some r → r.location = .quarantine → s.rod.occupant slot = none →
      s.rod.slotReservation slot = none →
      ∃ t, exec (.returnRod args) s = .next t ∧ OnlyRods s t ∧ OtherRods tag s t ∧
        t.rod.rods.length = s.rod.rods.length ∧ t.rod.find tag = some { r with location := .rack slot } ∧
        t.rod.occupant slot = some tag ∧ Replied s t .done (rodBody { r with location := .rack slot })) := by
  rw [Refused, Refused, Refused, exec_returnRod ha hd]
  refine ⟨fun hr => ?notFound, fun r hr hloc => ?elsewhere, fun r hr hloc htaken => ?slotTaken,
    fun r hr hloc hfree hunres => ?moved⟩
  case notFound => simp [hr]
  case elsewhere => simp [hr, hloc]
  case slotTaken =>
    have hopen : ¬s.rod.slotOpen slot = true := by
      rw [slotOpen_iff]
      rintro ⟨hocc, hres⟩
      simp [hocc, hres] at htaken
    simp [hr, hloc, hopen]
  case moved =>
    obtain ⟨honly, hothers, hlength, hfind, hreply⟩ := doneRod_move (.rack slot) hr
    have hopen : s.rod.slotOpen slot = true := slotOpen_iff.2 ⟨hfree, hunres⟩
    exact ⟨_, by simp [hr, hloc, hopen], honly, hothers, hlength, hfind, occupant_move_in hr hfree, hreply⟩

end rods

/-- Settles O23: each request's arguments are read back, and its conditions follow one another as its rule has them. -/
theorem rackRodsAreMoved : Obligations.RackRodsAreMoved := by
  unfold Obligations.RackRodsAreMoved
  refine ⟨fun s tag h1 h2 ⟨hagrees, _⟩ => ⟨fun ha => ?_, fun ha => ?_⟩, fun s tag slot h1 h2 h3 h4 ha => ?_⟩
  · exact quarantineRod_moves hagrees ha (decodeTag_be h1 h2)
  · exact retireRod_frees hagrees ha (decodeTag_be h1 h2)
  · exact returnRod_moves ha (decodeReturnRod_be h1 h2 h3 h4)

end Sys2Proof.Laws.RackRods
end

section
/-! The map of a job slot edited (R26, R27, R35, R37): how a covering map is ordered, which interval a depth names, the
checks every edit makes, and what an edit that is carried out leaves of a state. -/
namespace Sys2Proof.Laws.MapEdits
open Sys2Proof Sys2Proof.Machine Sys2Proof.Laws.RackRods

/-! ## A covering map (R27) -/

section covering
variable {top hole d n : Nat} {i x : Interval} {pre post rest : List Interval}

theorem covers_head (h : covers top hole (i :: rest) = true) : i.top = top ∧ i.top ≤ i.bottom := by
  cases rest with
  | nil =>
    obtain ⟨htop, hbottom, hle, -⟩ := of_decide_eq_true h
    omega
  | cons j rest =>
    obtain ⟨hhead, -⟩ := Bool.and_eq_true_iff.1 h
    obtain ⟨htop, hlt, -⟩ := of_decide_eq_true hhead
    omega

/-- An interval above another has length, and the map goes on at its bottom. -/
theorem covers_tail (hne : rest ≠ []) (h : covers top hole (i :: rest) = true) :
    i.top < i.bottom ∧ covers i.bottom hole rest = true := by
  cases rest with
  | nil => exact absurd rfl hne
  | cons j rest =>
    obtain ⟨hhead, htail⟩ := Bool.and_eq_true_iff.1 h
    obtain ⟨htop, hlt, -⟩ := of_decide_eq_true hhead
    exact ⟨by omega, htail⟩

/-- The map from one of its intervals down covers the rest of the hole, and the intervals above have length and end at
or above its top. -/
theorem covers_append (h : covers top hole (pre ++ i :: post) = true) :
    covers i.top hole (i :: post) = true ∧ top ≤ i.top ∧ ∀ x ∈ pre, x.top < x.bottom ∧ x.bottom ≤ i.top := by
  induction pre generalizing top with
  | nil =>
    obtain ⟨htop, -⟩ := covers_head h
    exact ⟨htop ▸ h, Nat.le_of_eq htop.symm, nofun⟩
  | cons y pre ih =>
    obtain ⟨htop, -⟩ := covers_head h
    obtain ⟨hlt, htail⟩ := covers_tail (by simp) h
    obtain ⟨hrest, hle, habove⟩ := ih htail
    refine ⟨hrest, by omega, fun x hx => ?_⟩
    rcases List.mem_cons.1 hx with rfl | hx
    · exact ⟨hlt, hle⟩
    · exact habove x hx

/-! ## The interval a depth names (R27) -/

theorem intervalFrom_head (h : d < i.bottom) : intervalFrom n d (i :: rest) = some (n, i) := by
  cases rest with
  | nil => rfl
  | cons j rest => exact if_pos h

theorem intervalFrom_below (hne : rest ≠ []) (h : i.bottom ≤ d) :
    intervalFrom n d (i :: rest) = intervalFrom (n + 1) d rest := by
  cases rest with
  | nil => exact absurd rfl hne
  | cons j rest => exact if_neg (Nat.not_lt.2 h)

theorem intervalFrom_append (habove : ∀ x ∈ pre, x.bottom ≤ d) (h : d < i.bottom) :
    intervalFrom n d (pre ++ i :: post) = some (n + pre.length, i) := by
  induction pre generalizing n with
  | nil => exact intervalFrom_head h
  | cons y pre ih =>
    rw [List.forall_mem_cons] at habove
    obtain ⟨hy, hpre⟩ := habove
    rw [List.cons_append, intervalFrom_below (by simp) hy, ih hpre, List.length_cons, Nat.add_assoc, Nat.add_comm 1]

theorem intervalAt_append (habove : ∀ x ∈ pre, x.bottom ≤ d) (h : d < i.bottom) :
    intervalAt d (pre ++ i :: post) = some (pre.length + 1, i) := by
  rw [intervalAt, intervalFrom_append habove h, Nat.add_comm]

end covering

/-! ## The job table (R143) -/

theorem mem_jobSlots {slot : Nat} (h1 : 1 ≤ slot) (h4 : slot ≤ 4) : slot ∈ jobSlots := by
  have h : slot = 1 ∨ slot = 2 ∨ slot = 3 ∨ slot = 4 := by omega
  simpa [jobSlots] using h

theorem get_put_same (t : JobTable) (x : Option Job) : ∀ n ∈ jobSlots, (t.put n x).get n = x := by
  simp [jobSlots, JobTable.put, JobTable.get]

theorem get_put_other (t : JobTable) (x : Option Job) :
    ∀ n ∈ jobSlots, ∀ m ∈ jobSlots, m ≠ n → (t.put n x).get m = t.get m := by
  simp [jobSlots, JobTable.put, JobTable.get]

/-! ## What an edit leaves (R26, R35) -/

theorem poolRefresh_eq (s : State) : poolRefresh s =
    s.setBore { s.bore with poolExhausted := s.bore.poolExhausted && decide (s.poolFree ≤ 8) } := by
  unfold poolRefresh
  split
  · next h => rw [decide_eq_false (by omega), Bool.and_false]
  · next h => rw [decide_eq_true (by omega), Bool.and_true, State.setBore_self]

/-- A survey after a map change: its inputs are taken anew where they have changed (R100). -/
def surveyAfter (inputs : Snapshot) (v : Survey) : Survey :=
  if v.snapshot = inputs then v
  else { v with snapshot := inputs, restarts := min (v.restarts + 1) 65535, elapsedMs := 0 }

theorem surveyRefresh_eq (s : State) :
    surveyRefresh s = s.setCirc { s.circ with survey := s.circ.survey.map (surveyAfter s.surveyInputs) } := by
  have hself : ∀ x, s.circ.survey = x → s.setCirc { s.circ with survey := x } = s := by rintro _ rfl; rfl
  unfold surveyRefresh
  split
  · next hnone => exact (hself _ (by simp [hnone])).symm
  · next v hv =>
    split
    · next hsame => exact (hself _ (by simp [hv, surveyAfter, hsame])).symm
    · next hchanged => simp [hv, surveyAfter, hchanged, State.setSurvey, satAdd]

/-- What a map change hands on touches the exhaustion mark and the survey alone. -/
theorem mapEdited_eq (t : State) : mapEdited t =
    (t.setBore { t.bore with poolExhausted := t.bore.poolExhausted && decide (t.poolFree ≤ 8) }).setCirc
      { t.circ with survey := t.circ.survey.map (surveyAfter t.surveyInputs) } := by
  rw [mapEdited, poolRefresh_eq, surveyRefresh_eq]; rfl

theorem putMap_eq {s : State} {slot : Nat} {j : Job} (m : List Interval) (hj : s.job.jobs.get slot = some j) :
    putMap slot m s = mapEdited (s.putJob slot (some { j with map := m })) := by
  rw [putMap, State.modifyJob, hj]; rfl

/-! ## The checks and the reply of an edit (R37) -/

section requests
variable {i : Instr} {s : State} {slot : Nat} {j : Job}

theorem editing_editable {k : Job → State → State} (hj : s.job.jobs.get slot = some j)
    (hst : j.state = .active ∨ j.state = .complete) : editing slot k s = k j s := by
  have heditable : j.editable = true := by simpa [Job.editable] using hst
  rw [editing, hj, found_some, check_of_holds heditable]

theorem editChecks_of_editing {k : Job → State → State} (hrun : exec i s = .next (editing slot k s)) :
    EditChecks i s slot := by
  refine ⟨fun hfree => ?_, fun j hj hst => ?_⟩
  · rw [Refused, hrun, editing, hfree, found_none]
  · have hlocked : ¬j.editable = true := by
      rcases hst with hst | hst <;> simp [Job.editable, hst]
    rw [Refused, hrun, editing, hj, found_some, check_of_fails hlocked]

/-- An edit that is carried out replaces the map and answers with the interval at its depth. -/
theorem editsMap_of_doneMap {m : List Interval} {d k : Nat} {x : Interval} (hslot : slot ∈ jobSlots)
    (hj : s.job.jobs.get slot = some j) (hrun : exec i s = .next (doneMap slot m d s))
    (hat : intervalAt d m = some (k, x)) : EditsMap i s slot j m fun t => intervalBody t slot k x := by
  have hget := get_put_same s.job.jobs (some { j with map := m }) slot hslot
  have hjobs : (putMap slot m s).job.jobs = s.job.jobs.put slot (some { j with map := m }) := by
    rw [putMap_eq m hj, mapEdited_eq]; rfl
  have hbody : intervalReply (putMap slot m s) slot d = intervalBody (putMap slot m s) slot k x := by
    simp [intervalReply, hjobs, hget, hat]
  have hdone : doneMap slot m d s = done (intervalBody (putMap slot m s) slot k x) (putMap slot m s) :=
    congrArg (fun body => done body (putMap slot m s)) hbody
  refine ⟨_, hrun.trans (congrArg _ hdone), ?job, ?others, ?change, ?reply⟩
  case job => exact (congrArg (·.get slot) hjobs).trans hget
  case others =>
    exact fun n hn hne => (congrArg (·.get n) hjobs).trans (get_put_other _ _ slot hslot n hn hne)
  case change => rw [putMap_eq m hj, mapEdited_eq]; exact ⟨rfl, rfl⟩
  case reply => rw [putMap_eq m hj, mapEdited_eq]; rfl

/-! ## Arguments (R41, R42, R201) -/

theorem decodeSlotDepth_be {d : Nat} (h1 : 1 ≤ slot) (h4 : slot ≤ 4) (hd : d ≤ maxDepth) :
    decodeSlotDepth (be 1 slot ++ be 4 d) = some (slot, d) := by
  have hslot : num (be 1 slot ++ be 4 d) 0 1 = slot := num_be (before := []) rfl (by omega)
  have hdepth : num (be 1 slot ++ be 4 d) 1 4 = d := by
    have hfits : d < 256 ^ 4 := by rw [maxDepth] at hd; omega
    simpa using num_be (after := []) (length_be 1 slot) hfits
  simp [decodeSlotDepth, ofLength, slotField, depthField, field, inRange, hslot, hdepth, h1, h4, hd]

end requests

end Sys2Proof.Laws.MapEdits
end

section
/-! SPLIT INTERVAL and MERGE INTERVALS (R41, R42): what the two operations make of a covering map, and what each of the
two requests makes of a state. -/
namespace Sys2Proof.Laws.SplitMerge
open Sys2Proof Sys2Proof.Machine Sys2Proof.Laws.RackRods Sys2Proof.Laws.MapEdits

/-! ## One interval split at a depth (R41) -/

theorem share_le {v upper length : Nat} (h : upper ≤ length) : share v upper length ≤ v := by
  have hwhole : v * upper ≤ length * v := Nat.mul_comm v length ▸ Nat.mul_le_mul_left v h
  exact Nat.div_le_of_le_mul hwhole

theorem share_add_rest {i : Interval} {d : Nat} (v : Nat) (h : d < i.bottom) :
    share v (d - i.top) i.length + (v - share v (d - i.top) i.length) = v :=
  Nat.add_sub_of_le (share_le (Nat.sub_le_sub_right (Nat.le_of_lt h) i.top))

theorem strike_in_one_part {i : Interval} (d : Nat) (h : i.strike.isSome = true) :
    (i.upper d).strike.isSome ≠ (i.lower d).strike.isSome := by
  obtain ⟨k, hk⟩ := Option.isSome_iff_exists.1 h
  by_cases hkd : k.depth < d
  · simp [Interval.upper, Interval.lower, hk, Option.filter, hkd]
  · simp [Interval.upper, Interval.lower, hk, Option.filter, hkd, Nat.not_lt.1 hkd]

/-! ## The map (R27, R41, R42) -/

section maps
variable {top hole d : Nat} {i u l : Interval} {m pre post : List Interval}

theorem strictlyInside_iff : strictlyInside d m = true ↔ ∃ i ∈ m, i.top < d ∧ d < i.bottom := by
  simp [strictlyInside]

theorem splitMap_append (habove : ∀ x ∈ pre, x.bottom ≤ d) (h : i.top < d ∧ d < i.bottom) :
    splitMap d (pre ++ i :: post) = pre ++ i.upper d :: i.lower d :: post := by
  induction pre with
  | nil => exact if_pos h
  | cons x pre ih =>
    rw [List.forall_mem_cons] at habove
    obtain ⟨hx, hpre⟩ := habove
    have houtside : ¬(x.top < d ∧ d < x.bottom) := by omega
    rw [List.cons_append, splitMap, if_neg houtside, ih hpre, List.cons_append]

theorem meetingAt_eq_none (h : ∀ i ∈ m.drop 1, i.top ≠ d) : meetingAt d m = none := by
  induction m with
  | nil => rfl
  | cons i m ih =>
    cases m with
    | nil => rfl
    | cons j m =>
      obtain ⟨hj, hm⟩ := List.forall_mem_cons.1 h
      rw [meetingAt, if_neg hj, ih hm]

/-- The boundary found is the one at the top of `l`: no interval above it starts at the depth. -/
theorem boundary_append (habove : ∀ x ∈ pre, x.top ≠ d) (hu : u.top ≠ d) (hl : l.top = d) :
    meetingAt d (pre ++ u :: l :: post) = some (u, l) ∧
      mergeMap d (pre ++ u :: l :: post) = pre ++ u.merge l :: post := by
  induction pre with
  | nil => exact ⟨if_pos hl, if_pos hl⟩
  | cons x pre ih =>
    obtain ⟨hmeet, hmerge⟩ := ih fun y hy => habove y (List.mem_cons_of_mem x hy)
    cases pre with
    | nil => exact ⟨(if_neg hu).trans hmeet, (if_neg hu).trans (congrArg (x :: ·) hmerge)⟩
    | cons y pre =>
      have hy : y.top ≠ d := habove y (by simp)
      exact ⟨(if_neg hy).trans hmeet, (if_neg hy).trans (congrArg (x :: ·) hmerge)⟩

end maps

/-! ## The requests -/

section requests
variable {s : State} {args : List Byte} {slot d : Nat} {j : Job}

/-- The conditions of SPLIT INTERVAL in the order of R41. -/
theorem exec_splitInterval (ha : s.accepts (.splitInterval args) = true)
    (hd : decodeSlotDepth args = some (slot, d)) :
    exec (.splitInterval args) s = .next (editing slot (fun j =>
      check .wrongState (strictlyInside d j.map) fun t =>
        check .full (decide (0 < t.poolFree)) (doneMap slot (splitMap d j.map) d) t) s) := by
  have hrun : exec (.splitInterval args) s = .next (reqSplitInterval args s) := congrArg _ (runRequest_of_takes _ ha)
  rw [hrun, reqSplitInterval, hd]; rfl

/-- The conditions of MERGE INTERVALS in the order of R42. -/
theorem exec_mergeIntervals (ha : s.accepts (.mergeIntervals args) = true)
    (hd : decodeSlotDepth args = some (slot, d)) :
    exec (.mergeIntervals args) s = .next (editing slot (fun j =>
      found .wrongState (meetingAt d j.map) fun p =>
        check .wrongState (mayMerge p) (doneMap slot (mergeMap d j.map) p.1.top)) s) := by
  have hrun : exec (.mergeIntervals args) s = .next (reqMergeIntervals args s) :=
    congrArg _ (runRequest_of_takes _ ha)
  rw [hrun, reqMergeIntervals, hd]; rfl

theorem splitInterval_refuses_outside (ha : s.accepts (.splitInterval args) = true)
    (hd : decodeSlotDepth args = some (slot, d)) (hj : s.job.jobs.get slot = some j)
    (hst : j.state = .active ∨ j.state = .complete) (hout : ∀ i ∈ j.map, ¬(i.top < d ∧ d < i.bottom)) :
    Refused (.splitInterval args) s .wrongState := by
  have hnot : ¬strictlyInside d j.map = true := by
    rw [strictlyInside_iff]
    rintro ⟨i, hi, hin⟩
    exact hout i hi hin
  rw [Refused, exec_splitInterval ha hd, editing_editable hj hst, check_of_fails hnot]

/-- With the depth strictly inside an interval, the pool decides: FULL, or the map with the two parts in its place. -/
theorem splitInterval_divides {pre post : List Interval} {i : Interval}
    (ha : s.accepts (.splitInterval args) = true) (hd : decodeSlotDepth args = some (slot, d))
    (hslot : slot ∈ jobSlots) (hj : s.job.jobs.get slot = some j) (hst : j.state = .active ∨ j.state = .complete)
    (hok : j.mapOk) (hmap : j.map = pre ++ i :: post) (htop : i.top < d) (hbot : d < i.bottom) :
    (s.poolFree = 0 → Refused (.splitInterval args) s .full) ∧
    (0 < s.poolFree → EditsMap (.splitInterval args) s slot j (pre ++ i.upper d :: i.lower d :: post)
      fun t => intervalBody t slot (pre.length + 2) (i.lower d)) := by
  obtain ⟨hcovers, -⟩ := hok
  rw [hmap] at hcovers
  obtain ⟨-, -, hpre⟩ := covers_append hcovers
  have habove : ∀ x ∈ pre, x.bottom ≤ d := fun x hx => Nat.le_trans (hpre x hx).2 (Nat.le_of_lt htop)
  have hinside : strictlyInside d j.map = true := strictlyInside_iff.2 ⟨i, by simp [hmap], htop, hbot⟩
  have hrun := exec_splitInterval ha hd
  rw [editing_editable hj hst, check_of_holds hinside, hmap, splitMap_append habove ⟨htop, hbot⟩] at hrun
  refine ⟨fun hfree => ?_, fun hfree => ?_⟩
  · rw [Refused, hrun, check_of_fails (by simp [hfree])]
  · rw [check_of_holds (by simpa using hfree)] at hrun
    have hlower : intervalAt d ((pre ++ [i.upper d]) ++ i.lower d :: post) =
        some ((pre ++ [i.upper d]).length + 1, i.lower d) :=
      intervalAt_append (by simpa [Interval.upper, or_imp, forall_and] using habove) hbot
    exact editsMap_of_doneMap hslot hj hrun (by simpa using hlower)

theorem mergeIntervals_refuses_no_boundary (ha : s.accepts (.mergeIntervals args) = true)
    (hd : decodeSlotDepth args = some (slot, d)) (hj : s.job.jobs.get slot = some j)
    (hst : j.state = .active ∨ j.state = .complete) (hout : ∀ i ∈ j.map.drop 1, i.top ≠ d) :
    Refused (.mergeIntervals args) s .wrongState := by
  rw [Refused, exec_mergeIntervals ha hd, editing_editable hj hst, meetingAt_eq_none hout, found_none]

theorem mayMerge_iff {u l : Interval} :
    mayMerge (u, l) = true ↔ u.diameter = l.diameter ∧ (u.strike = none ∨ l.strike = none) := by
  simp [mayMerge]

/-- At a boundary, the two intervals that meet decide: WRONG_STATE, or the map with the one interval in their place. -/
theorem mergeIntervals_joins {pre post : List Interval} {u l : Interval}
    (ha : s.accepts (.mergeIntervals args) = true) (hd : decodeSlotDepth args = some (slot, d))
    (hslot : slot ∈ jobSlots) (hj : s.job.jobs.get slot = some j) (hst : j.state = .active ∨ j.state = .complete)
    (hok : j.mapOk) (hmap : j.map = pre ++ u :: l :: post) (hl : l.top = d) :
    (¬mayMerge (u, l) = true → Refused (.mergeIntervals args) s .wrongState) ∧
    (mayMerge (u, l) = true → EditsMap (.mergeIntervals args) s slot j (pre ++ u.merge l :: post)
      fun t => intervalBody t slot (pre.length + 1) (u.merge l)) := by
  obtain ⟨hcovers, -⟩ := hok
  rw [hmap] at hcovers
  obtain ⟨hfromU, -, hpre⟩ := covers_append hcovers
  obtain ⟨hu, hfromL⟩ := covers_tail (by simp) hfromU
  obtain ⟨hmeet, hlen⟩ := covers_head hfromL
  have htops : ∀ x ∈ pre, x.top ≠ d := fun x hx => by
    obtain ⟨hx1, hx2⟩ := hpre x hx
    omega
  obtain ⟨hfound, hmerged⟩ := boundary_append (post := post) htops (show u.top ≠ d by omega) hl
  have hrun := exec_mergeIntervals ha hd
  rw [editing_editable hj hst, hmap, hfound, found_some, hmerged] at hrun
  refine ⟨fun hnot => ?_, fun hmay => ?_⟩
  · rw [Refused, hrun, check_of_fails hnot]
  · rw [check_of_holds hmay] at hrun
    have hbottom : u.top < (u.merge l).bottom := show u.top < l.bottom by omega
    exact editsMap_of_doneMap hslot hj hrun (intervalAt_append (fun x hx => (hpre x hx).2) hbottom)

end requests

/-- Settles O27: in a covering map no interval above the split one holds the depth, so the split falls there alone. -/
theorem splitIntervalApportions : Obligations.SplitIntervalApportions := by
  unfold Obligations.SplitIntervalApportions
  intro s slot d h1 h4 hdepth ha
  have hd := decodeSlotDepth_be h1 h4 hdepth
  refine ⟨editChecks_of_editing (exec_splitInterval ha hd), fun j hj hst hok => ⟨fun hout => ?outside,
    fun pre i post hmap htop hbot => ?inside⟩⟩
  case outside => exact splitInterval_refuses_outside ha hd hj hst hout
  case inside =>
    obtain ⟨hfull, hdivided⟩ := splitInterval_divides ha hd (mem_jobSlots h1 h4) hj hst hok hmap htop hbot
    exact ⟨hfull, fun hfree => ⟨hdivided hfree, share_add_rest _ hbot, share_add_rest _ hbot, share_add_rest _ hbot,
      strike_in_one_part d⟩⟩

/-- Settles O28: in a covering map no interval above the lower one starts at the boundary, so the two that meet there
are the ones joined. -/
theorem mergeIntervalsJoins : Obligations.MergeIntervalsJoins := by
  unfold Obligations.MergeIntervalsJoins
  intro s slot d h1 h4 hdepth ha
  have hd := decodeSlotDepth_be h1 h4 hdepth
  refine ⟨editChecks_of_editing (exec_mergeIntervals ha hd), fun j hj hst hok => ⟨fun hout => ?noBoundary,
    fun pre u l post hmap hl => ?boundary⟩⟩
  case noBoundary => exact mergeIntervals_refuses_no_boundary ha hd hj hst hout
  case boundary =>
    obtain ⟨hrefused, hjoined⟩ := mergeIntervals_joins ha hd (mem_jobSlots h1 h4) hj hst hok hmap hl
    rw [mayMerge_iff] at hrefused hjoined
    exact ⟨fun hdia => hrefused fun ⟨hsame, _⟩ => hdia hsame,
      fun _ hupper hlower => hrefused fun ⟨_, hone⟩ => hone.elim hupper hlower,
      fun hdia hone => hjoined ⟨hdia, hone⟩⟩

end Sys2Proof.Laws.SplitMerge
end
